-- ==== Sys2Proof/Word.lean ====
section
/-! DEFINITION. The word types of the ET16: what the manual treats as bits (R178).
Quantities the manual only counts, compares or adds as integers are `Nat` or `Int` where they are held. -/

namespace Sys2Proof

/-- One byte of a frame, a message or the configuration record. -/
abbrev Byte := BitVec 8

/-- A station's identity (R66), or the place of one in a frame; 0 where a field may name no station. -/
abbrev Identity := BitVec 32

/-- A reading of this station's odometer in mm, modulo 2^32 (R4, R5). -/
abbrev Distance := BitVec 32

/-- The number of a roll call, modulo 256 (R51). -/
abbrev Epoch := BitVec 8

/-- A TRACK-SAMPLE's sequence number, modulo 65,536 (R93). -/
abbrev Sequence := BitVec 16

/-- A 16-bit check (R177). -/
abbrev Check := BitVec 16

end Sys2Proof
end

