-- ==== Sys2Proof/Syntax.lean ====
section
/-! DEFINITION. The commands of the ET16: one constructor of `Instr` for each row of spec/opcode_table.json, with the
operands the rule of the row gives the event. Every command but POWER_ON carries the lapse of time since the command
before it, and a command inside which the manual leaves an order open carries that order (notes/assumptions 1 and 2). -/

namespace Sys2Proof

/-- An end of the car, and so a port of the tilt link and a side of the station (R33, R74). -/
inductive End where
  | a
  | b
deriving DecidableEq, Repr

/-- The two forms of idle fill (chapter 3.1). -/
inductive Fill where
  | plain
  | marked
deriving DecidableEq, Repr

/-- What a port's receiver heard throughout a lapse of time: the bytes of frames, or one form of fill (R35, R36). -/
inductive Heard where
  | bytes
  | fill (f : Fill)
deriving DecidableEq, Repr

/-- The time since the command before, in µs, and what each port's receiver heard throughout it. -/
structure Lapse where
  us     : Nat
  heardA : Heard
  heardB : Heard
deriving DecidableEq, Repr

/-- The body of a ROLL-ENTRY (R179), each field as it stands in its bytes. -/
structure RollEntry where
  epoch      : Epoch
  identity   : Identity
  /-- bit 0 unconfigured, bit 1 sent-from (0 A end, 1 B end) -/
  flags      : Byte
  carLength  : BitVec 16
  sensorPos  : BitVec 16
  refPos     : BitVec 16
  unitNumber : Byte
deriving DecidableEq, Repr

/-- The body of a TRACK-SAMPLE (R179). -/
structure TrackSample where
  source   : Identity
  sequence : Sequence
  /-- lateral acceleration, mm/s², two's complement -/
  accel    : BitVec 16
  valid    : Bool
  backdate : BitVec 15
deriving DecidableEq, Repr

/-- The body of a CAR-STATE (R160, R179), each field as it stands in its bytes. -/
structure CarStateFrame where
  identity  : Identity
  mode      : Byte
  direction : Byte
  /-- bit 0 BOGIE-FAULT, bit 1 BODY-FAULT, bit 2 FAILED latch, bit 3 split latch -/
  flags     : Byte
  theta     : BitVec 16
  command   : BitVec 16
  speed     : BitVec 32
  pSource   : Identity
deriving DecidableEq, Repr

/-- The body of a TILT-ORDER (R164, R179), target and action as they stand in their bytes. -/
structure TiltOrder where
  origin : Identity
  target : Byte
  action : Byte
deriving DecidableEq, Repr

/-- The body of a link frame, by the five kinds (R179). -/
inductive FrameBody where
  | rollStart (epoch : Epoch) (origin : Identity)
  | rollEntry (entry : RollEntry)
  | trackSample (sample : TrackSample)
  | carState (report : CarStateFrame)
  | tiltOrder (order : TiltOrder)
deriving DecidableEq, Repr

/-- A link frame between its start pattern and its check (R179): the kind follows from the body. -/
structure LinkFrame where
  hop  : Byte
  /-- units of 10 µs -/
  age  : BitVec 16
  body : FrameBody
deriving DecidableEq, Repr

/-- What made a format error (R39): a kind byte of no kind, or a hop byte above 15. -/
inductive FormatError where
  | kind (byte : Byte)
  | hop (byte : Byte)
deriving DecidableEq, Repr

/-- The six bytes of a sensor reply (R180). -/
structure SensorReply where
  address : Byte
  status  : Byte
  value   : BitVec 16
  check   : Check
deriving DecidableEq, Repr

/-- The 34 bytes of the configuration record by their fields (R180). -/
structure RecordBytes where
  identity       : Identity
  wheelDiameter  : BitVec 16
  pulsesPerRev   : Byte
  carLength      : BitVec 16
  sensorPos      : BitVec 16
  refPos         : BitVec 16
  unitNumber     : Byte
  lookaheadTime  : BitVec 16
  /-- byte 16, not judged -/
  reserved       : Byte
  compensation   : Byte
  localComp      : Byte
  switchOff      : BitVec 16
  switchOn       : BitVec 16
  angleLimit     : BitVec 16
  gangwayLimit   : BitVec 16
  tiltRate       : BitVec 16
  loopGain       : BitVec 16
  /-- units of 10 mm/s² -/
  thresholdTens  : Byte
  check          : Check
deriving DecidableEq, Repr

/-- The commands of the ET16, in the order of spec/opcode_table.json. -/
inductive Instr where
  /-- POWER_ON: power is applied while the two input lines stand at the given levels (R176). -/
  | powerOn (inhibitActive supplyHigh : Bool)
  /-- TACHOMETER_PULSE: a rising edge of T1; the level of T2 (true: high) in the sample before the edge's sample and in
  it (R1); `crossCheckFirst`: XCK takes a reversal before SRC's step reaches it (R118). -/
  | tachometerPulse (t : Lapse) (t2Before t2Now crossCheckFirst : Bool)
  /-- CAPTURE_COUNTER_WRAP (R11). -/
  | captureCounterWrap (t : Lapse)
  /-- POLL_EXPIRY (R16). -/
  | pollExpiry (t : Lapse)
  /-- BOGIE_FRAME: six bytes of reply in the bogie exchange (R17). -/
  | bogieFrame (t : Lapse) (reply : SensorReply)
  /-- BODY_ANGLE_FRAME: six bytes of reply in the body-angle exchange (R18). -/
  | bodyAngleFrame (t : Lapse) (reply : SensorReply)
  /-- SENSOR_REPLY_TIMEOUT (R16). -/
  | sensorReplyTimeout (t : Lapse)
  /-- LINE_SIGNAL_DETECTED at a port (R34). -/
  | lineSignalDetected (t : Lapse) (port : End)
  /-- SIGNAL_LOSS at a port (R34). -/
  | signalLoss (t : Lapse) (port : End)
  /-- SETTLE_TIME_EXPIRY at a port (R35). -/
  | settleTimeExpiry (t : Lapse) (port : End)
  /-- FAR_END_UP at a port (R35). -/
  | farEndUp (t : Lapse) (port : End)
  /-- FLAG_TIME_EXPIRY at a port (R35). -/
  | flagTimeExpiry (t : Lapse) (port : End)
  /-- MARKER_TIME_EXPIRY at a port (R36). -/
  | markerTimeExpiry (t : Lapse) (port : End)
  /-- FRAME_TRUNCATED: a fill symbol, of the given form, cuts a frame short (R38). -/
  | frameTruncated (t : Lapse) (port : End) (fill : Fill)
  /-- FRAME_FORMAT_ERROR at a port (R39). -/
  | frameFormatError (t : Lapse) (port : End) (error : FormatError)
  /-- LINK_FRAME_RECEIVED: the last check byte of a frame arrives (R40); `offerFirst`: the frame is offered to the other
  port before it is handed to the units (R40, R43; notes/assumptions/26.md); `queueFirst`: PVQ takes a sample before RCL and SRC (R86). -/
  | linkFrameReceived (t : Lapse) (port : End) (frame : LinkFrame) (check : Check) (offerFirst queueFirst : Bool)
  /-- TRANSMIT_COMPLETE at a port (R44). -/
  | transmitComplete (t : Lapse) (port : End)
  /-- TRIGGER_HOLD_EXPIRY (R53). -/
  | triggerHoldExpiry (t : Lapse)
  /-- QUIET_TIMER_EXPIRY (R59). -/
  | quietTimerExpiry (t : Lapse)
  /-- CONTROL_EXPIRY (R124). -/
  | controlExpiry (t : Lapse)
  /-- SUPPLY_OK_LINE_CHANGE: the raw level becomes high or low (R150). -/
  | supplyOkLineChange (t : Lapse) (high : Bool)
  /-- SUPPLY_OK_DEBOUNCE_EXPIRY (R150). -/
  | supplyOkDebounceExpiry (t : Lapse)
  /-- INHIBIT_LINE_CHANGE: the raw level becomes active or inactive (R163). -/
  | inhibitLineChange (t : Lapse) (active : Bool)
  /-- INHIBIT_DEBOUNCE_EXPIRY (R163). -/
  | inhibitDebounceExpiry (t : Lapse)
  /-- CAR_STATE_TIMER_EXPIRY (R159). -/
  | carStateTimerExpiry (t : Lapse)
  /-- CONFIG_READ_COMPLETE: the record has been read (R168); `carStateFirst`: at the end of START, CSO builds its first
  CAR-STATE before RCL takes its trigger (R167). -/
  | configReadComplete (t : Lapse) (record : RecordBytes) (carStateFirst : Bool)
  /-- CONFIG_LOAD_RETRY (R167). -/
  | configLoadRetry (t : Lapse)
  /-- CONFIG_LOAD_TIMEOUT (R167); `carStateFirst` as for CONFIG_READ_COMPLETE. -/
  | configLoadTimeout (t : Lapse) (carStateFirst : Bool)
  /-- REQUEST_GAP_TIMEOUT: a request ends incomplete (R170). -/
  | requestGapTimeout (t : Lapse)
  /-- UNKNOWN_REQUEST: a complete request whose check fails or whose code names no request (R170). -/
  | unknownRequest (t : Lapse) (code : Byte) (payload : List Byte) (check : Check)
  /-- READ_STATUS, with the payload received; as for each request below, its check is good (R171). -/
  | readStatus (t : Lapse) (payload : List Byte)
  /-- READ_ROSTER: the payload is the index (R71). -/
  | readRoster (t : Lapse) (payload : List Byte)
  /-- READ_SLOTS (R90, R110). -/
  | readSlots (t : Lapse) (payload : List Byte)
  /-- READ_COUNTERS (R171). -/
  | readCounters (t : Lapse) (payload : List Byte)
  /-- FETCH_EVENT (R173). -/
  | fetchEvent (t : Lapse) (payload : List Byte)
  /-- SET_LOCAL_INHIBIT: the payload is 0 off or 1 on (R171). -/
  | setLocalInhibit (t : Lapse) (payload : List Byte)
  /-- SEND_ORDER: the payload is the target and the action (R164). -/
  | sendOrder (t : Lapse) (payload : List Byte)
  /-- RESET_FAILED (R155). -/
  | resetFailed (t : Lapse) (payload : List Byte)
  /-- RESTART (R175). -/
  | restart (t : Lapse) (payload : List Byte)
  /-- START_PATTERN_FOUND at a port (R38). -/
  | startPatternFound (t : Lapse) (port : End)
deriving DecidableEq, Repr

end Sys2Proof
end

