-- ==== Sys2Proof/Decode.lean ====
section
/-! DEFINITION. The commands that a word spells by the bits of spec/opcode_table.json. No row of the table gives a bit
(every "fields" is empty and no row has "fixed"), so no word spells a command. -/

namespace Sys2Proof

/-- The command that an instruction word spells by the table's bits: none, since no row gives any (98_reader.md). -/
def decodeTableWord (_nbits _w : Nat) : Option Instr := none

end Sys2Proof
end

