-- ==== Sys2Proof/Config.lean ====
section
/-! DEFINITION. What is settled for a car rather than computed: the fields of the configuration record in use (R169).
The model has no opaque constant: where the manual leaves an order open, a command carries it (notes/assumptions/2.md),
and the factory serial is a field of State (notes/assumptions/3.md). -/

namespace Sys2Proof

/-- The configuration in use: one record of the fields of R169, in the units of R169. -/
structure ConfigRecord where
  identity      : Identity
  /-- D, mm -/
  wheelDiameter : Nat
  /-- N -/
  pulsesPerRev  : Nat
  /-- mm -/
  carLength     : Nat
  /-- mm from the A end -/
  sensorPos     : Nat
  /-- mm from the A end -/
  refPos        : Nat
  /-- 1..15, none in the default record -/
  unitNumber    : Option Nat
  /-- T_look, ms -/
  lookaheadTime : Nat
  /-- c, per cent -/
  compensation  : Nat
  /-- c_local, per cent -/
  localComp     : Nat
  /-- v_off, mm/s -/
  switchOff     : Nat
  /-- v_on, mm/s -/
  switchOn      : Nat
  /-- φ_max, mdeg -/
  angleLimit    : Nat
  /-- G, mdeg -/
  gangwayLimit  : Nat
  /-- R, mdeg/s -/
  tiltRate      : Nat
  /-- Kp, per-mille per degree -/
  loopGain      : Nat
  /-- agreement threshold, mm/s² -/
  threshold     : Nat
deriving DecidableEq, Repr

end Sys2Proof
end

