-- ==== Sys2Proof/Machine/Units.lean ====
section
/-! DEFINITION. The state of each functional unit, as plain data: one structure for each row of the table of units in
spec/00_scope.md, and one field for each line of that unit's own state table. Times are in µs. -/

namespace Sys2Proof.Machine

/-! ## ODO (chapter 1) -/

/-- The direction state (R6). -/
inductive Direction where
  | unknown
  | towardA
  | towardB
deriving DecidableEq, Repr

/-- The measurement state (R9); the last period (µs) and the last pulse speed (mm/s) are held in TIMED alone. -/
inductive Measurement where
  | void
  | started
  | timed (lastPeriod lastPulseSpeed : Nat)
deriving DecidableEq, Repr

/-- The odometry unit. -/
structure Odo where
  /-- PL, 1/1024 mm -/
  pulseLength    : Nat
  odometer       : Distance
  /-- 1/1024 mm, below 1024 -/
  fraction       : Nat
  direction      : Direction
  measurement    : Measurement
  captureCounter : Nat
  overflowCount  : Nat
  /-- mm/s -/
  speed          : Nat
deriving DecidableEq, Repr

/-! ## SNS and TSU (chapter 2) -/

/-- The two sensor units. -/
inductive SensorUnit where
  | bogie
  | body
deriving DecidableEq, Repr

/-- A setting or a clearing, as an event names it. -/
inductive Change where
  | set
  | clear
deriving DecidableEq, Repr

/-- The exchange in progress on the sensor line, with the time waited for its reply (R16). -/
inductive SensorWait where
  | idle
  | waiting (unit : SensorUnit) (time : Nat)
deriving DecidableEq, Repr

/-- The fault state of one sensor unit with its two counts (R20). -/
structure SensorHealth where
  fault : Bool
  bad   : Nat
  good  : Nat
deriving DecidableEq, Repr

/-- Bad frames of one sensor unit by cause (R19). -/
structure BadFrameCounts where
  noReply      : Nat
  checkFailure : Nat
  wrongAddress : Nat
  faultStatus  : Nat
deriving DecidableEq, Repr

/-- The ten sensor counters (R19). -/
structure SensorCounters where
  bogie          : BadFrameCounts
  body           : BadFrameCounts
  bodyOutOfRange : Nat
  bogieClamped   : Nat
deriving DecidableEq, Repr

/-- The sensor line unit. -/
structure Sns where
  /-- mm/s² -/
  lastBogie   : Int
  /-- θ, mdeg -/
  lastBody    : Int
  bogieHealth : SensorHealth
  bodyHealth  : SensorHealth
  /-- the local window, oldest first (R24) -/
  window      : List Int
  counters    : SensorCounters
  wait        : SensorWait
  /-- the last request SNS put on the sensor line (R180) -/
  request     : List Byte
deriving DecidableEq, Repr

/-- The sampling state (R26). -/
inductive Sampling where
  | idle
  | running
deriving DecidableEq, Repr

/-- The track sampling unit. -/
structure Tsu where
  sampling      : Sampling
  intervalStart : Distance
  intervalSum   : Int
  intervalCount : Nat
  sequence      : Sequence
deriving DecidableEq, Repr

/-! ## LNK (chapter 3) -/

/-- A port's line state (R34 to R36). -/
inductive LineState where
  | down
  | settling
  | up
deriving DecidableEq, Repr

/-- A port's receiver; while a frame is collected, with the line state at its start pattern (R38, R40). -/
inductive Receiver where
  | hunting
  | inFrame (lineAtPattern : LineState)
deriving DecidableEq, Repr

/-- A frame in a transmit queue: its hop as it will be sent, its age on joining, and the time from which its residence
counts, which is its creation or its acceptance (R45). -/
structure Queued where
  frame : LinkFrame
  since : Nat
deriving DecidableEq, Repr

/-- The seven counters of a port (R47). -/
structure PortCounters where
  accepted      : Nat
  truncated     : Nat
  formatErrors  : Nat
  checkFailures : Nat
  noticeDrops   : Nat
  streamDrops   : Nat
  staleDrops    : Nat
deriving DecidableEq, Repr

/-- One port of the link unit. -/
structure Port where
  line          : LineState
  farEnd        : Bool
  settleTime    : Nat
  markerTime    : Nat
  clearFillTime : Nat
  flagTime      : Nat
  receiver      : Receiver
  notices       : List Queued
  streams       : List Queued
  /-- the frame being sent, with the age it carries on the line; none when IDLE -/
  sending       : Option LinkFrame
  counters      : PortCounters
deriving DecidableEq, Repr

/-! ## RCL (chapter 4) -/

/-- The train state. -/
inductive TrainState where
  | none
  | forming
  | formed
  | oversize
  | conflict
deriving DecidableEq, Repr

/-- The side of a roster entry (R66). -/
inductive Side where
  | port (e : End)
  | self
deriving DecidableEq, Repr

/-- A station's last CAR-STATE in its roster entry (R67): the mode byte and the fault flags as received. -/
structure CarReport where
  time  : Nat
  mode  : Byte
  theta : Int
  flags : Byte
deriving DecidableEq, Repr

/-- A roster entry (R66). -/
structure RosterEntry where
  identity      : Identity
  side          : Side
  hop           : Option Nat
  sentFrom      : Option End
  ordinal       : Option Nat
  aFacesEnd0    : Option Bool
  carLength     : Nat
  sensorPos     : Nat
  refPos        : Nat
  unitNumber    : Nat
  unconfigured  : Bool
  /-- of the sensor, or of the reference point for self -/
  position      : Option Int
  trainDistance : Option Int
  lastCarState  : Option CarReport
  lastValid     : Option Nat
  invalidCount  : Nat
deriving DecidableEq, Repr

/-- The roll-call unit. -/
structure Rcl where
  currentEpoch   : Epoch
  highestEpoch   : Epoch
  trainState     : TrainState
  roster         : List RosterEntry
  previousRoster : List RosterEntry
  duplicateFlag  : Bool
  overflowFlag   : Bool
  refusedCount   : Nat
  /-- none: stopped -/
  quietTimer     : Option Nat
  /-- none: stopped -/
  triggerHold    : Option Nat
  pendingTrigger : Bool
deriving DecidableEq, Repr

/-! ## SRC (chapter 5) -/

/-- The two slots. -/
inductive Slot where
  | p
  | s
deriving DecidableEq, Repr

/-- A source with an offset in mm: a slot's binding with its offset in use, or a source in the ranking (R77, R78). -/
structure Source where
  identity : Identity
  offset   : Int
deriving DecidableEq, Repr

/-- The source selector. -/
structure Src where
  slotP    : Option Source
  slotS    : Option Source
  eligible : List Identity
  ranking  : List Source
  headFlag : Bool
deriving DecidableEq, Repr

/-! ## PVQ (chapter 6) -/

/-- An entry of a preview queue (R92). -/
structure PreviewEntry where
  sequence : Sequence
  due      : Distance
  accel    : Int
deriving DecidableEq, Repr

/-- The three counts of a slot (R109). -/
structure SlotCounts where
  outOfOrder : Nat
  gap        : Nat
  headDrop   : Nat
deriving DecidableEq, Repr

/-- The result of a lookup (R103). -/
inductive Lookup where
  | covered (accel : Int)
  | before
  | beyond
  | hole
deriving DecidableEq, Repr

/-- The preview queue unit. -/
structure Pvq where
  queueP     : List PreviewEntry
  queueS     : List PreviewEntry
  countsP    : SlotCounts
  countsS    : SlotCounts
  lastLookup : Option Lookup
deriving DecidableEq, Repr

/-! ## XCK (chapter 7) -/

/-- The cross-check unit. -/
structure Xck where
  splitCounter  : Nat
  splitLatch    : Bool
  /-- mm/s² -/
  threshold     : Nat
  agreed        : Nat
  disagreed     : Nat
  unmatched     : Nat
  latchSettings : Nat
deriving DecidableEq, Repr

/-! ## DMD (chapter 8) -/

/-- The tilt mode. -/
inductive TiltMode where
  | start
  | upright
  | localBogie
  | preview
  | hold
  | failed
deriving DecidableEq, Repr

/-- The causes of a mode change, in the order of R136, the causes of UPRIGHT in the order of R128. -/
inductive ModeCause where
  | failedLatch
  | inhibit
  | localInhibit
  | orderInhibit
  | train
  | direction
  | speed
  | supply
  | bogieFault
  | covered
  | pEmpty
  | split
  | before
  | beyond
  | hole
  | holdEnded
  | noPreview
deriving DecidableEq, Repr

/-- The demand unit. -/
structure Dmd where
  mode           : TiltMode
  lastCause      : Option ModeCause
  /-- mm -/
  lookahead      : Nat
  /-- LP, or none -/
  lookaheadPoint : Option Distance
  lastOdometer   : Distance
  /-- never FORMING -/
  standing       : TrainState
  /-- mm -/
  holdRemainder  : Nat
  heldDemand     : Int
  lastDemand     : Int
  target         : Int
  command        : Int
  localInhibit   : Bool
deriving DecidableEq, Repr

/-! ## ACT (chapter 9) -/

/-- The causes of the FAILED latch (R154). -/
inductive FailureCause where
  | sensor
  | supply
  | tracking
  | config
deriving DecidableEq, Repr

/-- The actuator loop unit; the FAILED latch is set exactly while it holds a cause (R154, R155). -/
structure Act where
  /-- per-mille -/
  duty           : Int
  enable         : Bool
  /-- Kp -/
  loopGain       : Nat
  rawSupply      : Bool
  supplyOk       : Bool
  debounceTime   : Nat
  blanking       : Nat
  trackingCount  : Nat
  failedLatch    : Bool
  failureCause   : Option FailureCause
deriving DecidableEq, Repr

/-! ## CSO (chapter 10) -/

/-- A neighbour's report (R161). -/
structure NeighbourReport where
  time  : Nat
  theta : Int
deriving DecidableEq, Repr

/-- The view of one side's neighbour (R161). -/
structure Neighbour where
  identity : Option Identity
  report   : Option NeighbourReport
deriving DecidableEq, Repr

/-- The action of a tilt order (R164). -/
inductive OrderAction where
  | inhibit
  | release
deriving DecidableEq, Repr

/-- The car-state and order unit. -/
structure Cso where
  /-- none: stopped -/
  carStateTimer : Option Nat
  neighbourA    : Neighbour
  neighbourB    : Neighbour
  rawInhibit    : Bool
  inhibit       : Bool
  debounceTime  : Nat
  unitInUse     : Option Nat
  orderInhibit  : Bool
deriving DecidableEq, Repr

/-! ## SVC (chapter 11) -/

/-- The start state (R167). -/
inductive StartState where
  | loading
  | done
deriving DecidableEq, Repr

/-- The load fault (R168). -/
inductive LoadFault where
  | noAnswer
  | badCheck
  | identityZero
  | position
deriving DecidableEq, Repr

/-- The causes of a port's change (R37). -/
inductive PortCause where
  | settled
  | farEndUp
  | signalLoss
  | farEndFail
deriving DecidableEq, Repr

/-- The causes of SOURCE-CHANGE (R86). -/
inductive SourceCause where
  | formation
  | reversal
  | eligibility
  | promotion
deriving DecidableEq, Repr

/-- The causes of SPLIT (R115, R117, R118). -/
inductive SplitCause where
  | count
  | binding
  | reversal
deriving DecidableEq, Repr

/-- The two debounced input lines (R174). -/
inductive ConditionLine where
  | inhibit
  | supplyOk
deriving DecidableEq, Repr

/-- The queue that lost a frame or an entry, and its place (R43). -/
inductive LossPlace where
  | notice (port : End)
  | stream (port : End)
  | preview (slot : Slot)
deriving DecidableEq, Repr

/-- The eleven event kinds, in the priority order of R173. -/
inductive EventKind where
  | actuatorFault
  | sensorFault
  | configFault
  | modeChange
  | split
  | sourceChange
  | rollDone
  | portChange
  | conditionChange
  | orderReceived
  | queueLoss
deriving DecidableEq, Repr

/-- The detail of an event, by its kind (R20, R37, R43, R60, R86, R115, R136, R154, R165, R168, R174). -/
inductive Detail where
  | actuatorFault (cause : FailureCause) (repeated : Bool)
  | sensorFault (unit : SensorUnit) (change : Change)
  | configFault (load : LoadFault)
  | modeChange (before after : TiltMode) (cause : ModeCause)
  | split (change : Change) (cause : SplitCause) (counter : Nat) (p s : Identity)
  | sourceChange (cause : SourceCause) (pBefore pAfter sAfter : Identity)
  | rollDone (state : TrainState) (epoch : Epoch) (count : Nat)
  | portChange (port : End) (up : Bool) (cause : PortCause)
  | conditionChange (line : ConditionLine) (inhibit supplyOk : Bool)
  | orderReceived (origin : Identity) (target : Nat) (action : OrderAction)
  | queueLoss (place : LossPlace)
deriving DecidableEq, Repr

/-- One record of the event set (R172). -/
structure EventRecord where
  pending : Bool
  count   : Nat
  detail  : Option Detail
deriving DecidableEq, Repr

/-- The event set: one record for each kind (R172). -/
structure EventSet where
  actuatorFault   : EventRecord
  sensorFault     : EventRecord
  configFault     : EventRecord
  modeChange      : EventRecord
  split           : EventRecord
  sourceChange    : EventRecord
  rollDone        : EventRecord
  portChange      : EventRecord
  conditionChange : EventRecord
  orderReceived   : EventRecord
  queueLoss       : EventRecord
deriving DecidableEq, Repr

/-- A condition latch (R174). -/
structure ConditionLatch where
  value   : Bool
  pending : Bool
deriving DecidableEq, Repr

/-- The service unit. -/
structure Svc where
  startState    : StartState
  /-- time since the load began (R167), at most 50 ms -/
  loadTime      : Nat
  /-- time since the read of the memory was last tried (R167), at most 50 ms -/
  tryTime       : Nat
  config        : ConfigRecord
  unconfigured  : Bool
  clamped       : Bool
  loadFault     : Option LoadFault
  factorySerial : BitVec 64
  events        : EventSet
  inhibitLatch  : ConditionLatch
  supplyLatch   : ConditionLatch
  malformed     : Nat
  /-- the last answer SVC put on the service line, all its bytes (R180); empty when none has been -/
  answer        : List Byte
deriving DecidableEq, Repr

end Sys2Proof.Machine
end

