-- ==== Sys2Proof/Machine/Ops.lean ====
section
/-! DEFINITION. The shared arithmetic: clamps, saturating counters, truncation toward zero, and the three comparisons of
numbers that wrap (odometer readings, R5; epochs, R51; sequences, R93). -/

namespace Sys2Proof.Machine

/-- `n` ms, in µs. -/
def ms (n : Nat) : Nat := n * 1000

/-- A value clamped to a range takes the nearer end (00_scope.md, Arithmetic). -/
def clampNat (low high n : Nat) : Nat := max low (min high n)

/-- A signed value clamped to a range. -/
def clampInt (low high n : Int) : Int := max low (min high n)

/-- A signed value clamped to −bound..bound. -/
def limit (bound : Nat) (n : Int) : Int := clampInt (-(bound : Int)) bound n

/-- A 16-bit counter rises by `k`, saturating at 65,535. -/
def addSat16 (n k : Nat) : Nat := min 65535 (n + k)

/-- A count rises by 1, saturating at 255. -/
def succSat8 (n : Nat) : Nat := min 255 (n + 1)

/-- The quotient of a division that truncates toward zero (00_scope.md, Arithmetic). -/
def truncDiv (a b : Int) : Int := Int.tdiv a b

/-- Round-half-up of `num / den` (R2). -/
def roundHalfUp (num den : Nat) : Nat :=
  if den ≤ 2 * (num % den) then num / den + 1 else num / den

/-! ## Odometer readings (R5) -/

/-- `x` is after `y`. -/
def isAfter (x y : Distance) : Bool :=
  decide (1 ≤ (x - y).toNat) && decide ((x - y).toNat < 2 ^ 31)

/-- `x` is before `y`. -/
def isBefore (x y : Distance) : Bool := isAfter y x

/-- `x` equals `y` or is after it. -/
def isAtOrAfter (x y : Distance) : Bool := x == y || isAfter x y

/-- The difference `x − y`, in −2^31..2^31 − 1. -/
def distanceDiff (x y : Distance) : Int := (x - y).toInt

/-- A distance plus a signed number of millimetres. -/
def distanceAdd (x : Distance) (k : Int) : Distance := x + BitVec.ofInt 32 k

/-- |x − y|, the magnitude of the signed difference. -/
def distanceApart (x y : Distance) : Nat := (distanceDiff x y).natAbs

/-! ## Epochs (R51) and sequences (R93) -/

/-- Epoch `e` is newer than epoch `f`. -/
def isNewer (e f : Epoch) : Bool :=
  decide (1 ≤ (e - f).toNat) && decide ((e - f).toNat ≤ 127)

/-- Sequence `s` follows sequence `t`. -/
def follows (s t : Sequence) : Bool :=
  decide (1 ≤ (s - t).toNat) && decide ((s - t).toNat ≤ 1000)

/-- The number of sequences missing between `t` and a following `s`. -/
def missingBetween (s t : Sequence) : Nat := (s - t).toNat - 1

/-! ## Timers -/

/-- A timer that is running grows with the time that goes by and stands at its end. -/
def growTimer (top us : Nat) : Option Nat → Option Nat
  | none   => none
  | some n => some (min top (n + us))

/-- A time of acceptance lies `bound` µs or less before `now`. -/
def isWithin (bound now time : Nat) : Bool := decide (now - time ≤ bound)

end Sys2Proof.Machine
end

