-- ==== Sys2Proof/Machine/Formats.lean ====
section
/-! DEFINITION. The formats of chapter 12 but for the answers of the service line: field encodings (R178), the 16-bit
check (R177), the bytes of link frames (R179), of sensor requests and replies and of the configuration record (R180). -/

namespace Sys2Proof.Machine

/-! ## Fields (R178) -/

/-- A 16-bit field, low byte first. -/
def bytes16 (w : BitVec 16) : List Byte := [w.setWidth 8, (w >>> 8).setWidth 8]

/-- A 32-bit field, low byte first. -/
def bytes32 (w : BitVec 32) : List Byte :=
  [w.setWidth 8, (w >>> 8).setWidth 8, (w >>> 16).setWidth 8, (w >>> 24).setWidth 8]

/-- A 64-bit field, low byte first. -/
def bytes64 (w : BitVec 64) : List Byte := bytes32 (w.setWidth 32) ++ bytes32 ((w >>> 32).setWidth 32)

/-- A number as one byte. -/
def byteOf (n : Nat) : Byte := BitVec.ofNat 8 n

/-- A number as a 2-byte field. -/
def nat16 (n : Nat) : List Byte := bytes16 (BitVec.ofNat 16 n)

/-- A number as a 4-byte field. -/
def nat32 (n : Nat) : List Byte := bytes32 (BitVec.ofNat 32 n)

/-- A signed number as a 2-byte field, two's complement. -/
def int16 (n : Int) : List Byte := bytes16 (BitVec.ofInt 16 n)

/-- A signed number as a 4-byte field, two's complement. -/
def int32 (n : Int) : List Byte := bytes32 (BitVec.ofInt 32 n)

/-- A single flag: 0 clear, 1 set. -/
def flagByte (b : Bool) : Byte := if b then 1 else 0

/-! ## The check (R177) -/

/-- One bit is taken into the check's register. -/
def checkBit (reg : BitVec 16) (bit : Bool) : BitVec 16 :=
  if bit == reg.getLsbD 0 then reg >>> 1 else (reg >>> 1) ^^^ 0x8408#16

/-- One byte is taken, bit by bit from its least significant bit. -/
def checkByte (reg : BitVec 16) (b : Byte) : BitVec 16 :=
  [0, 1, 2, 3, 4, 5, 6, 7].foldl (fun r i => checkBit r (b.getLsbD i)) reg

/-- The check of the covered bytes. -/
def checkOf (bytes : List Byte) : Check := ~~~ bytes.foldl checkByte 0xFFFF#16

/-! ## Link frames (R179) -/

/-- The kind byte. -/
def kindByte : FrameBody → Byte
  | .rollStart _ _ => 1
  | .rollEntry _   => 2
  | .trackSample _ => 3
  | .carState _    => 4
  | .tiltOrder _   => 5

/-- The bytes of a body. -/
def bodyBytes : FrameBody → List Byte
  | .rollStart epoch origin => epoch :: bytes32 origin
  | .rollEntry e => [e.epoch] ++ bytes32 e.identity ++ [e.flags] ++ bytes16 e.carLength ++ bytes16 e.sensorPos
      ++ bytes16 e.refPos ++ [e.unitNumber]
  | .trackSample t => bytes32 t.source ++ bytes16 t.sequence ++ bytes16 t.accel
      ++ bytes16 (t.backdate.setWidth 16 ||| (if t.valid then 0x8000#16 else 0#16))
  | .carState c => bytes32 c.identity ++ [c.mode, c.direction, c.flags] ++ bytes16 c.theta ++ bytes16 c.command
      ++ bytes32 c.speed ++ bytes32 c.pSource
  | .tiltOrder o => bytes32 o.origin ++ [o.target, o.action]

/-- The bytes that the check of a frame covers: kind, hop, age and body. -/
def frameCovered (f : LinkFrame) : List Byte :=
  [kindByte f.body, f.hop] ++ bytes16 f.age ++ bodyBytes f.body

/-- A whole frame as it stands on the line: start pattern, covered bytes, check. -/
def frameBytes (f : LinkFrame) : List Byte :=
  [0x7E#8, 0xC1#8] ++ frameCovered f ++ bytes16 (checkOf (frameCovered f))

/-- A frame of the class Notice; the others are stream frames (chapter 3.2). -/
def isNotice : FrameBody → Bool
  | .rollStart _ _ => true
  | .rollEntry _   => true
  | .trackSample _ => false
  | .carState _    => false
  | .tiltOrder _   => true

/-! ## Sensor line and configuration record (R180) -/

/-- The line address of a sensor unit. -/
def unitAddress : SensorUnit → Byte
  | .bogie => 1
  | .body  => 2

/-- A request: the unit's address and the check. -/
def sensorRequest (unit : SensorUnit) : List Byte :=
  [unitAddress unit] ++ bytes16 (checkOf [unitAddress unit])

/-- The bytes that the check of a reply covers. -/
def replyCovered (r : SensorReply) : List Byte := [r.address, r.status] ++ bytes16 r.value

/-- Bytes 0 to 31 of the configuration record. -/
def recordCovered (r : RecordBytes) : List Byte :=
  bytes32 r.identity ++ bytes16 r.wheelDiameter ++ [r.pulsesPerRev] ++ bytes16 r.carLength ++ bytes16 r.sensorPos
    ++ bytes16 r.refPos ++ [r.unitNumber] ++ bytes16 r.lookaheadTime ++ [r.reserved, r.compensation, r.localComp]
    ++ bytes16 r.switchOff ++ bytes16 r.switchOn ++ bytes16 r.angleLimit ++ bytes16 r.gangwayLimit
    ++ bytes16 r.tiltRate ++ bytes16 r.loopGain ++ [r.thresholdTens]

/-! ## Service messages (R180) -/

/-- The bytes that the check of a service message covers: code, length and payload. -/
def messageCovered (code : Byte) (payload : List Byte) : List Byte :=
  [code, byteOf payload.length] ++ payload

/-- An answer on the service line: start byte, code as received, length, payload, check. -/
def answerBytes (code : Byte) (payload : List Byte) : List Byte :=
  [0xC3#8] ++ messageCovered code payload ++ bytes16 (checkOf (messageCovered code payload))

end Sys2Proof.Machine
end

