-- ==== Sys2Proof/Machine/Record.lean ====
section
/-! DEFINITION. The configuration record: the default record, the judgement and the clamps of a record read (R168, R169,
R180), and the figures worked out from it (R2, R142). -/

namespace Sys2Proof.Machine

/-- The identity an unconfigured station takes: the low 32 bits of the factory serial (R168). -/
def serialIdentity (serial : BitVec 64) : Identity := serial.setWidth 32

/-- The default record: every field of R169 at its default, and no unit number. -/
def defaultRecord (serial : BitVec 64) : ConfigRecord where
  identity      := serialIdentity serial
  wheelDiameter := 920
  pulsesPerRev  := 100
  carLength     := 26400
  sensorPos     := 2500
  refPos        := 13200
  unitNumber    := none
  lookaheadTime := 350
  compensation  := 70
  localComp     := 45
  switchOff     := 16700
  switchOn      := 19500
  angleLimit    := 8000
  gangwayLimit  := 4000
  tiltRate      := 5000
  loopGain      := 400
  threshold     := 400

/-- The fields of a record as read, before any clamp; the stored threshold is multiplied by 10 (R180). DESIGN CHOICE, unsafe:
the two angles are read as unsigned, like the other fields, notes/assumptions/33.md. -/
def recordAsRead (r : RecordBytes) : ConfigRecord where
  identity      := r.identity
  wheelDiameter := r.wheelDiameter.toNat
  pulsesPerRev  := r.pulsesPerRev.toNat
  carLength     := r.carLength.toNat
  sensorPos     := r.sensorPos.toNat
  refPos        := r.refPos.toNat
  unitNumber    := some r.unitNumber.toNat
  lookaheadTime := r.lookaheadTime.toNat
  compensation  := r.compensation.toNat
  localComp     := r.localComp.toNat
  switchOff     := r.switchOff.toNat
  switchOn      := r.switchOn.toNat
  angleLimit    := r.angleLimit.toNat
  gangwayLimit  := r.gangwayLimit.toNat
  tiltRate      := r.tiltRate.toNat
  loopGain      := r.loopGain.toNat
  threshold     := r.thresholdTens.toNat * 10

/-- The car length as clamped, by which the positions are judged (R168, R169). -/
def clampedCarLength (c : ConfigRecord) : Nat := clampNat 10000 40000 c.carLength

/-- Each field brought into its range; c before c_local, and v_off before v_on (R169). -/
def clampRecord (c : ConfigRecord) : ConfigRecord where
  identity      := c.identity
  wheelDiameter := clampNat 700 1000 c.wheelDiameter
  pulsesPerRev  := clampNat 50 250 c.pulsesPerRev
  carLength     := clampedCarLength c
  sensorPos     := clampNat 0 (clampedCarLength c) c.sensorPos
  refPos        := clampNat 0 (clampedCarLength c) c.refPos
  unitNumber    := c.unitNumber.map (clampNat 1 15)
  lookaheadTime := clampNat 0 800 c.lookaheadTime
  compensation  := clampNat 0 90 c.compensation
  localComp     := clampNat 0 (clampNat 0 90 c.compensation) c.localComp
  switchOff     := clampNat 5000 40000 c.switchOff
  switchOn      := clampNat (clampNat 5000 40000 c.switchOff) 50000 c.switchOn
  angleLimit    := clampNat 1000 10000 c.angleLimit
  gangwayLimit  := clampNat 1000 8000 c.gangwayLimit
  tiltRate      := clampNat 500 15000 c.tiltRate
  loopGain      := clampNat 50 2000 c.loopGain
  threshold     := clampNat 100 1500 c.threshold

/-- The load fault of a record read complete: the first of R168 that applies. -/
def judgeRecord (r : RecordBytes) : Option LoadFault :=
  if r.check ≠ checkOf (recordCovered r) then some .badCheck
  else if r.identity = 0 then some .identityZero
  else if clampedCarLength (recordAsRead r) < r.sensorPos.toNat
      || clampedCarLength (recordAsRead r) < r.refPos.toNat then some .position
  else none

/-- The pulse length that a record gives (R2). -/
def recordPulseLength (c : ConfigRecord) : Nat :=
  roundHalfUp (314159265 * c.wheelDiameter * 1024) (100000000 * c.pulsesPerRev)

/-- The rate step that a record gives, in mdeg (R142). -/
def rateStep (c : ConfigRecord) : Nat := c.tiltRate / 100

end Sys2Proof.Machine
end

