-- ==== Sys2Proof/Machine/PowerOn.lean ====
section
/-! DEFINITION. The values each unit takes at power-on (R14, R31, R48, R72, R91, R111, R122, R145, R158, R166, R176). -/

namespace Sys2Proof.Machine

/-- ODO at power-on (R14). -/
def odoPowerOn : Odo where
  pulseLength    := 29596
  odometer       := 0
  fraction       := 0
  direction      := .unknown
  measurement    := .void
  captureCounter := 0
  overflowCount  := 0
  speed          := 0

/-- A sensor unit's fault state at power-on and at RESTART (R31, R32). -/
def healthClear : SensorHealth where
  fault := false
  bad   := 0
  good  := 0

/-- The bad-frame counts of one unit at power-on and at RESTART (R19). -/
def badFramesZero : BadFrameCounts where
  noReply      := 0
  checkFailure := 0
  wrongAddress := 0
  faultStatus  := 0

/-- The sensor counters at power-on and at RESTART (R19). -/
def sensorCountersZero : SensorCounters where
  bogie          := badFramesZero
  body           := badFramesZero
  bodyOutOfRange := 0
  bogieClamped   := 0

/-- SNS at power-on (R31). -/
def snsPowerOn : Sns where
  lastBogie   := 0
  lastBody    := 0
  bogieHealth := healthClear
  bodyHealth  := healthClear
  window      := []
  counters    := sensorCountersZero
  wait        := .idle
  request     := []

/-- TSU at power-on (R31). -/
def tsuPowerOn : Tsu where
  sampling      := .idle
  intervalStart := 0
  intervalSum   := 0
  intervalCount := 0
  sequence      := 0

/-- The counters of a port at power-on (R48). -/
def portCountersZero : PortCounters where
  accepted      := 0
  truncated     := 0
  formatErrors  := 0
  checkFailures := 0
  noticeDrops   := 0
  streamDrops   := 0
  staleDrops    := 0

/-- A port at power-on (R48). -/
def portPowerOn : Port where
  line          := .down
  farEnd        := false
  settleTime    := 0
  markerTime    := 0
  clearFillTime := 0
  flagTime      := 0
  receiver      := .hunting
  notices       := []
  streams       := []
  sending       := none
  counters      := portCountersZero

/-- RCL at power-on (R72). -/
def rclPowerOn : Rcl where
  currentEpoch   := 0
  highestEpoch   := 0
  trainState     := .none
  roster         := []
  previousRoster := []
  duplicateFlag  := false
  overflowFlag   := false
  refusedCount   := 0
  quietTimer     := none
  triggerHold    := none
  pendingTrigger := false

/-- SRC at power-on and at RESTART (R91). -/
def srcPowerOn : Src where
  slotP    := none
  slotS    := none
  eligible := []
  ranking  := []
  headFlag := true

/-- The counts of a slot at power-on and at RESTART (R111, R112). -/
def slotCountsZero : SlotCounts where
  outOfOrder := 0
  gap        := 0
  headDrop   := 0

/-- PVQ at power-on and at RESTART (R111, R112). -/
def pvqPowerOn : Pvq where
  queueP     := []
  queueS     := []
  countsP    := slotCountsZero
  countsS    := slotCountsZero
  lastLookup := none

/-- XCK at power-on, with the agreement threshold in use (R122, R123). -/
def xckWithThreshold (threshold : Nat) : Xck where
  splitCounter  := 0
  splitLatch    := false
  threshold     := threshold
  agreed        := 0
  disagreed     := 0
  unmatched     := 0
  latchSettings := 0

/-- DMD at power-on (R145). -/
def dmdPowerOn : Dmd where
  mode           := .start
  lastCause      := none
  lookahead      := 0
  lookaheadPoint := none
  lastOdometer   := 0
  standing       := .none
  holdRemainder  := 0
  heldDemand     := 0
  lastDemand     := 0
  target         := 0
  command        := 0
  localInhibit   := false

/-- ACT at power-on, while the SUPPLY-OK line stands at the given level (R150, R158). -/
def actPowerOn (supplyHigh : Bool) : Act where
  duty          := 0
  enable        := false
  loopGain      := 400
  rawSupply     := supplyHigh
  supplyOk      := false
  debounceTime  := 0
  blanking      := 0
  trackingCount := 0
  failedLatch   := false
  failureCause  := none

/-- A side with no neighbour and no report (R166). -/
def noNeighbour : Neighbour where
  identity := none
  report   := none

/-- CSO at power-on, while the INHIBIT trainline stands at the given level (R163, R166). -/
def csoPowerOn (inhibitActive : Bool) : Cso where
  carStateTimer := none
  neighbourA    := noNeighbour
  neighbourB    := noNeighbour
  rawInhibit    := inhibitActive
  inhibit       := false
  debounceTime  := 0
  unitInUse     := none
  orderInhibit  := false

/-- The record of a kind that is not pending (R172, R173). -/
def recordClear : EventRecord where
  pending := false
  count   := 0
  detail  := none

/-- The event set, cleared (R175, R176). -/
def eventsClear : EventSet where
  actuatorFault   := recordClear
  sensorFault     := recordClear
  configFault     := recordClear
  modeChange      := recordClear
  split           := recordClear
  sourceChange    := recordClear
  rollDone        := recordClear
  portChange      := recordClear
  conditionChange := recordClear
  orderReceived   := recordClear
  queueLoss       := recordClear

/-- A condition latch that holds a level, not pending (R175, R176). -/
def latchAt (level : Bool) : ConditionLatch where
  value   := level
  pending := false

/-- SVC at power-on, in a part of the given factory serial (R176). -/
def svcPowerOn (serial : BitVec 64) : Svc where
  startState    := .loading
  loadTime      := 0
  tryTime       := 0
  config        := defaultRecord serial
  unconfigured  := false
  clamped       := false
  loadFault     := none
  factorySerial := serial
  events        := eventsClear
  inhibitLatch  := latchAt false
  supplyLatch   := latchAt false
  malformed     := 0
  answer        := []

end Sys2Proof.Machine
end

