-- ==== Sys2Proof/Machine/State.lean ====
section
/-! DEFINITION. The whole state of one ET16, the reasons a step can stop, and the state after reset. -/

namespace Sys2Proof.Machine

/-- The state of one ET16: its twelve units, the time, and the commands that wait. -/
structure State where
  /-- µs since power-on: the clock against which times of acceptance are kept (the model's own form of them) -/
  now     : Nat
  odo     : Odo
  sns     : Sns
  tsu     : Tsu
  portA   : Port
  portB   : Port
  rcl     : Rcl
  src     : Src
  pvq     : Pvq
  xck     : Xck
  dmd     : Dmd
  act     : Act
  cso     : Cso
  svc     : Svc
  /-- the commands that wait, first in, first out (the model's own) -/
  pending : List Instr
deriving DecidableEq, Repr

/-- Why a step stops with a fault. -/
inductive Fault where
  /-- Raised by the meaning of a command whose term is not well formed (`Instr.wf`): such a term describes no event of
  the ET16, so the manual gives it no effect. Safe: no behaviour of the hardware is replaced. -/
  | illFormed
deriving DecidableEq, Repr

/-- Why a step is refused. -/
inductive Refusal where
  /-- Raised by `exec` alone, for a command that has no meaning yet; no arm raises it now. Safe. -/
  | notModelled (mnemonic : String)
deriving DecidableEq, Repr

/-- Every unit at its power-on values, for a part of the given serial and the given levels of its two input lines
(R176); the commands that wait are the sender's and are handed on. -/
def State.powerOn (serial : BitVec 64) (inhibitActive supplyHigh : Bool) (pending : List Instr) : State where
  now     := 0
  odo     := odoPowerOn
  sns     := snsPowerOn
  tsu     := tsuPowerOn
  portA   := portPowerOn
  portB   := portPowerOn
  rcl     := rclPowerOn
  src     := srcPowerOn
  pvq     := pvqPowerOn
  xck     := xckWithThreshold 400
  dmd     := dmdPowerOn
  act     := actPowerOn supplyHigh
  cso     := csoPowerOn inhibitActive
  svc     := svcPowerOn serial
  pending := pending

/-- The machine right after reset: power-on with both input lines at rest. The factory serial, for which the manual gives
no value, is 1 (DESIGN CHOICE, unsafe: notes/assumptions/3.md). -/
def State.reset : State := State.powerOn 1 false false []

end Sys2Proof.Machine
end

