-- ==== Sys2Proof/Machine/Events.lean ====
section
/-! DEFINITION. The event set and the condition latches (R172 to R174), and the two ports as one pair. DEDUCED: the
latch of INHIBIT is judged first at a fetch, notes/assumptions/15.md. -/

namespace Sys2Proof.Machine

/-! ## The two ports -/

/-- The other end of the car. -/
def otherEnd : End → End
  | .a => .b
  | .b => .a

/-- The port at an end. -/
def State.port (s : State) : End → Port
  | .a => s.portA
  | .b => s.portB

/-- The state with another port at an end. -/
def State.setPort (s : State) (e : End) (p : Port) : State :=
  match e with
  | .a => { s with portA := p }
  | .b => { s with portB := p }

/-! ## The event set (R172) -/

/-- The kind of an event's detail. -/
def kindOf : Detail → EventKind
  | .actuatorFault _ _     => .actuatorFault
  | .sensorFault _ _       => .sensorFault
  | .configFault _         => .configFault
  | .modeChange _ _ _      => .modeChange
  | .split _ _ _ _ _       => .split
  | .sourceChange _ _ _ _  => .sourceChange
  | .rollDone _ _ _        => .rollDone
  | .portChange _ _ _      => .portChange
  | .conditionChange _ _ _ => .conditionChange
  | .orderReceived _ _ _   => .orderReceived
  | .queueLoss _           => .queueLoss

/-- The record of a kind. -/
def EventSet.record (es : EventSet) : EventKind → EventRecord
  | .actuatorFault   => es.actuatorFault
  | .sensorFault     => es.sensorFault
  | .configFault     => es.configFault
  | .modeChange      => es.modeChange
  | .split           => es.split
  | .sourceChange    => es.sourceChange
  | .rollDone        => es.rollDone
  | .portChange      => es.portChange
  | .conditionChange => es.conditionChange
  | .orderReceived   => es.orderReceived
  | .queueLoss       => es.queueLoss

/-- The event set with another record of a kind. -/
def EventSet.setRecord (es : EventSet) (k : EventKind) (r : EventRecord) : EventSet :=
  match k with
  | .actuatorFault   => { es with actuatorFault := r }
  | .sensorFault     => { es with sensorFault := r }
  | .configFault     => { es with configFault := r }
  | .modeChange      => { es with modeChange := r }
  | .split           => { es with split := r }
  | .sourceChange    => { es with sourceChange := r }
  | .rollDone        => { es with rollDone := r }
  | .portChange      => { es with portChange := r }
  | .conditionChange => { es with conditionChange := r }
  | .orderReceived   => { es with orderReceived := r }
  | .queueLoss       => { es with queueLoss := r }

/-- The kinds in the priority order of R173. -/
def kindsByPriority : List EventKind :=
  [.actuatorFault, .sensorFault, .configFault, .modeChange, .split, .sourceChange, .rollDone, .portChange,
    .conditionChange, .orderReceived, .queueLoss]

/-- A kind's record after a raising: QUEUE-LOSS alone keeps the detail of its first raising (R172). -/
def raisedRecord (d : Detail) (r : EventRecord) : EventRecord :=
  if r.pending then
    { r with
      count  := succSat8 r.count
      detail := if kindOf d = .queueLoss then r.detail else some d }
  else
    { pending := true, count := 1, detail := some d }

/-- A unit raises an event (R172). -/
def State.raise (d : Detail) (s : State) : State :=
  { s with svc.events := s.svc.events.setRecord (kindOf d) (raisedRecord d (s.svc.events.record (kindOf d))) }

/-- The notify line is active exactly while a kind is pending (R172). -/
def notifyLine (s : State) : Bool := kindsByPriority.any fun k => (s.svc.events.record k).pending

/-! ## The condition latches (R174) -/

/-- The live debounced level of a line. -/
def liveLevel (s : State) : ConditionLine → Bool
  | .inhibit  => s.cso.inhibit
  | .supplyOk => s.act.supplyOk

/-- The condition latch of a line. -/
def conditionLatch (s : State) : ConditionLine → ConditionLatch
  | .inhibit  => s.svc.inhibitLatch
  | .supplyOk => s.svc.supplyLatch

/-- The state with another condition latch for a line. -/
def setConditionLatch (line : ConditionLine) (l : ConditionLatch) (s : State) : State :=
  match line with
  | .inhibit  => { s with svc.inhibitLatch := l }
  | .supplyOk => { s with svc.supplyLatch := l }

/-- A latch takes the live level of its line, becomes pending and raises CONDITION-CHANGE with both latched values. -/
def copyCondition (line : ConditionLine) (s : State) : State :=
  let s' := setConditionLatch line { value := liveLevel s line, pending := true } s
  s'.raise (.conditionChange line s'.svc.inhibitLatch.value s'.svc.supplyLatch.value)

/-- A debounced change of a line is handed to SVC: a pending latch keeps its value and raises nothing. -/
def handCondition (line : ConditionLine) (s : State) : State :=
  if (conditionLatch s line).pending then s else copyCondition line s

/-- A latch is judged again at a fetch of CONDITION-CHANGE: it copies a live level that differs from its own. -/
def rejudgeCondition (line : ConditionLine) (s : State) : State :=
  if liveLevel s line = (conditionLatch s line).value then s else copyCondition line s

/-- What a fetch of CONDITION-CHANGE does to the two latches: both pending flags are cleared, then each is judged in
turn, INHIBIT first as the state table names them. -/
def rejudgeConditions (s : State) : State :=
  rejudgeCondition .supplyOk
    (rejudgeCondition .inhibit { s with svc.inhibitLatch.pending := false, svc.supplyLatch.pending := false })

end Sys2Proof.Machine
end

