-- ==== Sys2Proof/Machine/Actuator.lean ====
section
/-! DEFINITION. ACT: the enable line, the position loop, the tracking monitor, the FAILED latch and SUPPLY-OK
(R147 to R156). -/

namespace Sys2Proof.Machine

/-- The enable line goes off at once, the duty becomes 0, and the monitor is set back (R149). -/
def disableDrive (s : State) : State :=
  { s with act.enable := false, act.duty := 0, act.trackingCount := 0, act.blanking := 0 }

/-- A cause other than CONFIG sets the FAILED latch, or reaches it set and is reported as a further cause (R154). -/
def failActuator (cause : FailureCause) (s : State) : State :=
  if s.act.failedLatch then s.raise (.actuatorFault cause true)
  else
    (disableDrive { s with act.failedLatch := true, act.failureCause := some cause }).raise (.actuatorFault cause false)

/-- The cause CONFIG sets the FAILED latch or replaces the cause it holds (R154); CONFIG-FAULT carries the load fault (R168). -/
def failConfig (fault : LoadFault) (s : State) : State :=
  (disableDrive { s with act.failedLatch := true, act.failureCause := some .config }).raise (.configFault fault)

/-- The FAILED latch is cleared (R155, R156). -/
def clearFailed (s : State) : State := { s with act.failedLatch := false, act.failureCause := none }

/-! ## The hand of a control expiry -/

/-- The enable line after a hand (R148). -/
def enableAfter (mode : TiltMode) (supplyOk : Bool) : Bool :=
  match mode with
  | .upright | .localBogie | .preview | .hold => supplyOk
  | .failed | .start => false

/-- The tracking error e: the angle command less the last body angle (R147). -/
def trackingError (s : State) : Int := s.dmd.command - s.sns.lastBody

/-- The drive duty of an enabled hand (R147). -/
def driveDuty (gain : Nat) (e : Int) : Int := limit 1000 (truncDiv (gain * e) 1000)

/-- A judged expiry of the tracking monitor: 100 in a row with a large error fail the car (R153). -/
def judgeTracking (s : State) : State :=
  if (trackingError s).natAbs ≤ 1500 then { s with act.trackingCount := 0 }
  else
    let s' := { s with act.trackingCount := s.act.trackingCount + 1 }
    if 100 ≤ s'.act.trackingCount then failActuator .tracking s' else s'

/-- The monitor at a hand at which the enable line stays on (R152). -/
def monitorTracking (s : State) : State :=
  if s.act.blanking ≤ 1 then judgeTracking { s with act.blanking := 0 }
  else { s with act.blanking := s.act.blanking - 1, act.trackingCount := 0 }

/-- DMD hands ACT the angle command and the mode (R144, R147): the enable line, the duty, then the monitor. -/
def handCommand (s : State) : State :=
  if enableAfter s.dmd.mode s.act.supplyOk then
    let s' := { s with act.enable := true, act.duty := driveDuty s.act.loopGain (trackingError s) }
    if s.act.enable then monitorTracking s' else { s' with act.blanking := 50, act.trackingCount := 0 }
  else disableDrive s

/-! ## SUPPLY-OK (R150, R151) -/

/-- The modes in which the car tilts. -/
def isTilting : TiltMode → Bool
  | .localBogie | .preview | .hold => true
  | .start | .upright | .failed => false

/-- The debounced level takes the raw level, which differs from it: a fall disables the drive, and fails a tilting car. -/
def supplyChanges (s : State) : State :=
  let s' := { s with act.supplyOk := s.act.rawSupply, act.debounceTime := 0 }
  let s'' :=
    if s.act.rawSupply then s'
    else if isTilting s.dmd.mode then failActuator .supply (disableDrive s') else disableDrive s'
  handCondition .supplyOk s''

/-- The reasons RESET-FAILED and RESTART are refused for (R178). -/
inductive RefusalReason where
  | start
  | notStanding
  | command
  | config
  | supply
  | bodyFault
deriving DecidableEq, Repr

/-- The first condition of RESET-FAILED that fails (R155); a clear latch is judged by none. -/
def resetFailedRefusal (s : State) : Option RefusalReason :=
  if !s.act.failedLatch then none
  else if s.odo.speed ≠ 0 then some .notStanding
  else if s.act.failureCause = some .config then some .config
  else if !s.act.supplyOk then some .supply
  else if s.sns.bodyHealth.fault then some .bodyFault
  else none

/-- ACT takes the outcome of a configuration load (R156). -/
def takeLoadOutcome (fault : Option LoadFault) (s : State) : State :=
  match fault with
  | some f => failConfig f s
  | none =>
    if s.act.failureCause = some .config then
      if s.sns.bodyHealth.fault then { s with act.failureCause := some .sensor } else clearFailed s
    else s

end Sys2Proof.Machine
end

