-- ==== Sys2Proof/Machine/Codes.lean ====
section
/-! DEFINITION. The codes of enumerated values (R178): those of its table, and 1, 2, 3 and so on in the order in which
the rule that lists the values names them. -/

namespace Sys2Proof.Machine

/-- Tilt mode (table of R178). -/
def modeCode : TiltMode → Byte
  | .start      => 0
  | .upright    => 1
  | .localBogie => 2
  | .preview    => 3
  | .hold       => 4
  | .failed     => 5

/-- Direction (table of R178). -/
def directionCode : Direction → Byte
  | .unknown => 0
  | .towardA => 1
  | .towardB => 2

/-- Train state (table of R178). -/
def trainStateCode : TrainState → Byte
  | .none     => 0
  | .forming  => 1
  | .formed   => 2
  | .oversize => 3
  | .conflict => 4

/-- Line state (table of R178). -/
def lineStateCode : LineState → Byte
  | .down     => 0
  | .settling => 1
  | .up       => 2

/-- Failure cause (table of R178). -/
def failureCauseCode : Option FailureCause → Byte
  | none           => 0
  | some .sensor   => 1
  | some .supply   => 2
  | some .tracking => 3
  | some .config   => 4

/-- Lookup (table of R178). -/
def lookupCode : Option Lookup → Byte
  | none              => 0
  | some (.covered _) => 1
  | some .before      => 2
  | some .beyond      => 3
  | some .hole        => 4

/-- Event kind: 1 to 11 in the priority order of R173 (table of R178). -/
def kindCode : EventKind → Byte
  | .actuatorFault   => 1
  | .sensorFault     => 2
  | .configFault     => 3
  | .modeChange      => 4
  | .split           => 5
  | .sourceChange    => 6
  | .rollDone        => 7
  | .portChange      => 8
  | .conditionChange => 9
  | .orderReceived   => 10
  | .queueLoss       => 11

/-- Refusal reason (table of R178). -/
def refusalCode : RefusalReason → Byte
  | .start       => 1
  | .notStanding => 2
  | .command     => 3
  | .config      => 4
  | .supply      => 5
  | .bodyFault   => 6

/-- Order action (table of R178). -/
def actionCode : OrderAction → Byte
  | .inhibit => 1
  | .release => 2

/-- The action that a code names; any other code names none (R179). -/
def actionOf (code : Byte) : Option OrderAction :=
  if code = 1 then some .inhibit else if code = 2 then some .release else none

/-- Mode-change causes in the order of R136, the causes of UPRIGHT in the order of R128. -/
def modeCauseCode : ModeCause → Byte
  | .failedLatch  => 1
  | .inhibit      => 2
  | .localInhibit => 3
  | .orderInhibit => 4
  | .train        => 5
  | .direction    => 6
  | .speed        => 7
  | .supply       => 8
  | .bogieFault   => 9
  | .covered      => 10
  | .pEmpty       => 11
  | .split        => 12
  | .before       => 13
  | .beyond       => 14
  | .hole         => 15
  | .holdEnded    => 16
  | .noPreview    => 17

/-- SOURCE-CHANGE causes in the order of R86. -/
def sourceCauseCode : SourceCause → Byte
  | .formation   => 1
  | .reversal    => 2
  | .eligibility => 3
  | .promotion   => 4

/-- SPLIT causes in the order of R115, R117 and R118. -/
def splitCauseCode : SplitCause → Byte
  | .count    => 1
  | .binding  => 2
  | .reversal => 3

/-- Changes in the order of R20 and R115. -/
def changeCode : Change → Byte
  | .set   => 1
  | .clear => 2

/-- PORT-CHANGE causes in the order of R37. -/
def portCauseCode : PortCause → Byte
  | .settled    => 1
  | .farEndUp   => 2
  | .signalLoss => 3
  | .farEndFail => 4

/-- Load faults in the order of the state table of the service unit. -/
def loadFaultCode : LoadFault → Byte
  | .noAnswer     => 1
  | .badCheck     => 2
  | .identityZero => 3
  | .position     => 4

/-- The ends, as ports (R37, R43) and as sent-from ends. -/
def endCode : End → Byte
  | .a => 1
  | .b => 2

/-- The sides of a roster entry in the order of R66. -/
def sideCode : Side → Byte
  | .port .a => 1
  | .port .b => 2
  | .self    => 3

/-- The sensor units in the order of R20. -/
def unitCode : SensorUnit → Byte
  | .bogie => 1
  | .body  => 2

/-- The two lines in the order of the state table of the service unit. -/
def conditionLineCode : ConditionLine → Byte
  | .inhibit  => 1
  | .supplyOk => 2

/-- Start state in the order of the state table of the service unit. -/
def startStateCode : StartState → Byte
  | .loading => 1
  | .done    => 2

/-- The slots (R43). -/
def slotCode : Slot → Byte
  | .p => 1
  | .s => 2

/-- The queue of a loss and its place (R43). -/
def lossBytes : LossPlace → List Byte
  | .notice e  => [1, endCode e]
  | .stream e  => [2, endCode e]
  | .preview k => [3, slotCode k]

end Sys2Proof.Machine
end

