-- ==== Sys2Proof/Machine/CrossCheck.lean ====
section
/-! DEFINITION. XCK: the matching of a joined entry, the judgement of a pair, and the split latch (R113 to R119), with
what DMD does at a setting of the latch (R134). -/

namespace Sys2Proof.Machine

/-- The identity bound in a slot, 0 for an empty slot (R86). -/
def slotIdentity (b : Option Source) : Identity :=
  match b with
  | some x => x.identity
  | none   => 0

/-- The mode changes, and MODE-CHANGE is raised with its cause (R136). -/
def changeMode (after : TiltMode) (cause : ModeCause) (s : State) : State :=
  ({ s with dmd.mode := after, dmd.lastCause := some cause }).raise (.modeChange s.dmd.mode after cause)

/-- The hold span, in mm (R132). -/
def holdSpan : Nat := 50000

/-- A setting of the latch in PREVIEW takes HOLD at once (R134). -/
def splitHold (s : State) : State :=
  if s.dmd.mode = .preview then
    changeMode .hold .split { s with dmd.holdRemainder := holdSpan, dmd.heldDemand := s.dmd.lastDemand }
  else s

/-- SPLIT is raised with the counter as it stands and the identities bound in P and S (R115). -/
def raiseSplit (change : Change) (cause : SplitCause) (s : State) : State :=
  s.raise (.split change cause s.xck.splitCounter (slotIdentity s.src.slotP) (slotIdentity s.src.slotS))

/-- The latch is judged after a change of the counter, and a setting is handed to DMD (R115, R116). -/
def judgeSplit (s : State) : State :=
  if !s.xck.splitLatch && decide (24 ≤ s.xck.splitCounter) then
    splitHold (raiseSplit .set .count
      { s with xck.splitLatch := true, xck.latchSettings := addSat16 s.xck.latchSettings 1 })
  else if s.xck.splitLatch && s.xck.splitCounter == 0 then
    raiseSplit .clear .count { s with xck.splitLatch := false }
  else s

/-- A matched pair is judged against the agreement threshold (R114). -/
def judgePair (joined matched : PreviewEntry) (s : State) : State :=
  if s.xck.threshold < (joined.accel - matched.accel).natAbs then
    judgeSplit { s with
      xck.splitCounter := min 48 (s.xck.splitCounter + 3)
      xck.disagreed    := addSat16 s.xck.disagreed 1 }
  else
    judgeSplit { s with
      xck.splitCounter := s.xck.splitCounter - 1
      xck.agreed       := addSat16 s.xck.agreed 1 }

/-- Of two entries, the one nearer to a due distance; at the same distance, the one before it (R113). -/
def nearer (due : Distance) (x y : PreviewEntry) : PreviewEntry :=
  if distanceApart y.due due < distanceApart x.due due then y
  else if distanceApart y.due due = distanceApart x.due due && isBefore y.due due then y
  else x

/-- The entry of a queue nearest to a due distance. -/
def nearest (due : Distance) : List PreviewEntry → Option PreviewEntry
  | []     => none
  | e :: q => some (q.foldl (nearer due) e)

/-- The queue of the slot other than the given one. -/
def otherQueue (s : State) : Slot → List PreviewEntry
  | .p => s.pvq.queueS
  | .s => s.pvq.queueP

/-- A joined entry finds no entry near enough in the other queue (R113). -/
def countUnmatched (s : State) : State := { s with xck.unmatched := addSat16 s.xck.unmatched 1 }

/-- PVQ hands XCK an entry that joined a slot's queue (R100, R113). -/
def crossCheck (slot : Slot) (e : PreviewEntry) (s : State) : State :=
  if s.src.slotP.isNone || s.src.slotS.isNone then s
  else
    match nearest e.due (otherQueue s slot) with
    | none   => countUnmatched s
    | some m => if distanceApart m.due e.due ≤ 1000 then judgePair e m s else countUnmatched s

/-- The counter and the latch are set back to 0; SPLIT is raised if the latch was set (R117, R118). -/
def resetSplit (cause : SplitCause) (s : State) : State :=
  let s' := { s with xck.splitCounter := 0, xck.splitLatch := false }
  if s.xck.splitLatch then raiseSplit .clear cause s' else s'

end Sys2Proof.Machine
end

