-- ==== Sys2Proof/Machine/Time.lean ====
section
/-! DEFINITION. What the passing of time does to the state: every clock and timer of the ET16 grows and stands at its
end, where the command of its expiry finds it. Nothing else changes between two commands. DESIGN CHOICE, unsafe where
a sender's lapses and expiries disagree: notes/assumptions/1.md; leftover times of a port: 17.md. -/

namespace Sys2Proof.Machine

/-- A stretch of data bytes or fill is heard on a port over a lapse (R35, R36). -/
def lapsePort (us : Nat) (heard : Heard) (p : Port) : Port :=
  match p.line with
  | .down => p
  | .settling =>
    { p with
      settleTime    := min (ms 10) (p.settleTime + us)
      flagTime      := if p.farEnd then min (ms 10000) (p.flagTime + us) else 0
      clearFillTime :=
        match heard with
        | .bytes        => p.clearFillTime
        | .fill .plain  => min 500 (p.clearFillTime + us)
        | .fill .marked => 0 }
  | .up =>
    { p with
      markerTime :=
        match heard with
        | .bytes        => 0
        | .fill .plain  => 0
        | .fill .marked => min (ms 1) (p.markerTime + us) }

/-- The capture counter runs in STARTED and TIMED (R9); it stands at 65,535 until its wrap is taken (R11). -/
def lapseOdo (us : Nat) (o : Odo) : Odo :=
  if o.measurement = .void then o else { o with captureCounter := min 65535 (o.captureCounter + us) }

/-- The wait for a sensor's reply (R16). -/
def lapseWait (us : Nat) : SensorWait → SensorWait
  | .idle           => .idle
  | .waiting u time => .waiting u (min 500 (time + us))

/-- A debounce time grows while the raw level differs from the debounced level, and stands at 0 otherwise (R150, R163). -/
def lapseDebounce (top us : Nat) (raw debounced : Bool) (time : Nat) : Nat :=
  if raw = debounced then 0 else min top (time + us)

/-- The time of the load and of its try (R167). -/
def lapseSvc (us : Nat) (v : Svc) : Svc :=
  match v.startState with
  | .loading => { v with loadTime := min (ms 50) (v.loadTime + us), tryTime := min (ms 50) (v.tryTime + us) }
  | .done    => v

/-- Time goes by. A lapse of 0 µs changes nothing. -/
def State.lapse (t : Lapse) (s : State) : State :=
  if t.us = 0 then s else
  { s with
    now               := s.now + t.us
    odo               := lapseOdo t.us s.odo
    sns.wait          := lapseWait t.us s.sns.wait
    portA             := lapsePort t.us t.heardA s.portA
    portB             := lapsePort t.us t.heardB s.portB
    rcl.quietTimer    := growTimer (ms 30) t.us s.rcl.quietTimer
    rcl.triggerHold   := growTimer (ms 100) t.us s.rcl.triggerHold
    act.debounceTime  := lapseDebounce (ms 50) t.us s.act.rawSupply s.act.supplyOk s.act.debounceTime
    cso.carStateTimer := growTimer (ms 50) t.us s.cso.carStateTimer
    cso.debounceTime  := lapseDebounce (ms 20) t.us s.cso.rawInhibit s.cso.inhibit s.cso.debounceTime
    svc               := lapseSvc t.us s.svc }

end Sys2Proof.Machine
end

