-- ==== Sys2Proof/Machine/Link.lean ====
section
/-! DEFINITION. The transmit side of LNK: ages, the two queues of a port, the transmitter's choice, and the offering of
frames to ports (R41 to R46). The order of the two ports: notes/assumptions/24.md. -/

namespace Sys2Proof.Machine

/-! ## Age (R40, R45) -/

/-- A sum of age in units of 10 µs, saturating at 65,535. -/
def ageSat (units : Nat) : BitVec 16 := BitVec.ofNat 16 (min 65535 units)

/-- The age that a queued frame would carry if it were started now: its residence is truncated to units (R45). -/
def ageAtStart (now : Nat) (q : Queued) : BitVec 16 := ageSat (q.frame.age.toNat + (now - q.since) / 10)

/-- A queued frame as the transmitter puts it on the line. -/
def startedFrame (now : Nat) (q : Queued) : LinkFrame := { q.frame with age := ageAtStart now q }

/-- The age given at acceptance: 10 units for the line the frame has just crossed (R40). -/
def acceptedFrame (f : LinkFrame) : LinkFrame := { f with age := ageSat (f.age.toNat + 10) }

/-! ## The transmitter's choice (R44, R46) -/

/-- A stream frame is stale when its age would be greater than 500 units (R46). -/
def isStale (now : Nat) (q : Queued) : Bool := decide (500 < (ageAtStart now q).toNat)

/-- The stream queue once its stale heads are dropped, and how many were. -/
def dropStale (now : Nat) : List Queued → Nat × List Queued
  | []        => (0, [])
  | q :: rest => if isStale now q then ((dropStale now rest).1 + 1, (dropStale now rest).2) else (0, q :: rest)

/-- The transmitter, IDLE, chooses its next frame (R44). -/
def chooseNext (now : Nat) (p : Port) : Port :=
  match p.notices with
  | q :: rest => { p with notices := rest, sending := some (startedFrame now q) }
  | [] =>
    let r := dropStale now p.streams
    { p with
      streams             := r.2.tail
      sending             := r.2.head?.map (startedFrame now)
      counters.staleDrops := addSat16 p.counters.staleDrops r.1 }

/-- A frame that joins finds the transmitter IDLE, and it chooses at once; or it is sending, and does not (R44). -/
def chooseIfIdle (now : Nat) (p : Port) : Port :=
  if p.sending.isNone then chooseNext now p else p

/-! ## Joining a queue (R43) -/

/-- The queue of a frame's class holds 8 frames. -/
def queueFull (body : FrameBody) (p : Port) : Bool :=
  if isNotice body then decide (8 ≤ p.notices.length) else decide (8 ≤ p.streams.length)

/-- A frame joins the tail of the queue of its class. -/
def joinTail (now : Nat) (f : LinkFrame) (p : Port) : Port :=
  if isNotice f.body then { p with notices := p.notices ++ [⟨f, now⟩] }
  else { p with streams := p.streams ++ [⟨f, now⟩] }

/-- The port's drop count of the class rises. -/
def countDrop (body : FrameBody) (p : Port) : Port :=
  if isNotice body then { p with counters.noticeDrops := addSat16 p.counters.noticeDrops 1 }
  else { p with counters.streamDrops := addSat16 p.counters.streamDrops 1 }

/-- The place a drop is reported at (R43). -/
def lossPlace (body : FrameBody) (e : End) : LossPlace := if isNotice body then .notice e else .stream e

/-- A frame is offered to a port: a port that is not UP takes nothing (R41, R42), a full queue drops the offered frame
(R43), and otherwise the frame joins. -/
def offerTo (e : End) (f : LinkFrame) (s : State) : State :=
  if (s.port e).line ≠ .up then s
  else if queueFull f.body (s.port e) then
    (s.setPort e (countDrop f.body (s.port e))).raise (.queueLoss (lossPlace f.body e))
  else s.setPort e (chooseIfIdle s.now (joinTail s.now f (s.port e)))

/-- An own frame: hop 0 and age 0 (R42). -/
def ownFrame (body : FrameBody) : LinkFrame := { hop := 0, age := 0, body := body }

/-- A unit of this station hands LNK a frame, which is offered to each port that is UP (R42). DESIGN CHOICE: to the A-END
port first, which shows in the detail of QUEUE-LOSS alone, notes/assumptions/24.md. -/
def originate (body : FrameBody) (s : State) : State :=
  offerTo .b (ownFrame body) (offerTo .a (ownFrame body) s)

/-- A frame accepted at a port, its age raised, is offered to the other port with one hop more, if its hop is less than
15 (R41). -/
def forward (arrived : End) (f : LinkFrame) (s : State) : State :=
  if f.hop.toNat < 15 then offerTo (otherEnd arrived) { f with hop := f.hop + 1 } s else s

/-! ## What a port puts on the line (R33) -/

/-- A transmitter's output. -/
inductive LineOutput where
  | fill (f : Fill)
  | frame (f : LinkFrame)
deriving DecidableEq, Repr

/-- A port that is not UP sends marked fill; an UP port sends its frame, or plain fill (R33). -/
def lineOutput (p : Port) : LineOutput :=
  match p.line, p.sending with
  | .up, some f => .frame f
  | .up, none   => .fill .plain
  | _, _        => .fill .marked

end Sys2Proof.Machine
end

