-- ==== Sys2Proof/Machine/CarState.lean ====
section
/-! DEFINITION. CSO: CAR-STATE frames, the neighbour view, the INHIBIT trainline and tilt orders (R159 to R165). -/

namespace Sys2Proof.Machine

/-! ## CAR-STATE (R159, R160) -/

/-- The flag byte of a CAR-STATE (R179). -/
def carStateFlags (s : State) : Byte :=
  flagByte s.sns.bogieHealth.fault ||| (flagByte s.sns.bodyHealth.fault <<< 1)
    ||| (flagByte s.act.failedLatch <<< 2) ||| (flagByte s.xck.splitLatch <<< 3)

/-- A CAR-STATE filled from the units as they stand (R160). -/
def buildCarState (s : State) : CarStateFrame where
  identity  := s.svc.config.identity
  mode      := modeCode s.dmd.mode
  direction := directionCode s.odo.direction
  flags     := carStateFlags s
  theta     := BitVec.ofInt 16 s.sns.lastBody
  command   := BitVec.ofInt 16 s.dmd.command
  speed     := BitVec.ofNat 32 s.odo.speed
  pSource   := slotIdentity s.src.slotP

/-- CSO builds and hands over a CAR-STATE, and the timer starts from 0 (R159). -/
def sendCarState (s : State) : State :=
  { originate (.carState (buildCarState s)) s with cso.carStateTimer := some 0 }

/-! ## The neighbour view (R161, R162) -/

/-- The neighbour view of a side. -/
def neighbour (s : State) : End → Neighbour
  | .a => s.cso.neighbourA
  | .b => s.cso.neighbourB

/-- A side takes its neighbour of a formation: the report is kept when the identity is the same. -/
def newNeighbour (id : Option Identity) (n : Neighbour) : Neighbour :=
  if id = n.identity then n else { identity := id, report := none }

/-- RCL hands CSO the neighbours of a formation. -/
def takeNeighbours (a b : Option Identity) (s : State) : State :=
  { s with cso.neighbourA := newNeighbour a s.cso.neighbourA, cso.neighbourB := newNeighbour b s.cso.neighbourB }

/-- A CAR-STATE from a hop-0 neighbour on its own side becomes that side's report; any other changes nothing. -/
def reportNeighbour (arrived : End) (hop : Byte) (c : CarStateFrame) (s : State) : State :=
  if (neighbour s arrived).identity = some c.identity && hop = 0 then
    match arrived with
    | .a => { s with cso.neighbourA.report := some ⟨s.now, c.theta.toInt⟩ }
    | .b => { s with cso.neighbourB.report := some ⟨s.now, c.theta.toInt⟩ }
  else s

/-- The angle of a side's neighbour: none without a neighbour, 0 when its report is none or older than 200 ms. -/
def neighbourAngle (s : State) (e : End) : Option Int :=
  match (neighbour s e).identity, (neighbour s e).report with
  | none,   _        => none
  | some _, none     => some 0
  | some _, some r   => if isWithin (ms 200) s.now r.time then some r.theta else some 0

/-! ## INHIBIT (R163) -/

/-- The debounced level takes the raw level, which differs from it, and the change is handed to SVC. -/
def inhibitChanges (s : State) : State :=
  handCondition .inhibit { s with cso.inhibit := s.cso.rawInhibit, cso.debounceTime := 0 }

/-! ## Tilt orders (R164, R165) -/

/-- An order addresses this station: target 0, or the unit number in use. -/
def addressed (s : State) (target : Nat) : Bool := decide (target = 0) || s.cso.unitInUse == some target

/-- An order is judged, and applied where it addresses this station; an action that is no code addresses none (R179). -/
def takeOrder (o : TiltOrder) (s : State) : State :=
  match actionOf o.action with
  | none => s
  | some action =>
    if addressed s o.target.toNat then
      ({ s with cso.orderInhibit := decide (action = OrderAction.inhibit) }).raise
        (.orderReceived o.origin o.target.toNat action)
    else s

/-- The order that a SEND-ORDER builds (R164). -/
def builtOrder (target : Byte) (action : OrderAction) (s : State) : TiltOrder where
  origin := s.svc.config.identity
  target := target
  action := actionCode action

/-- CSO builds an order, hands it to LNK, and applies it to this station (R164). -/
def sendTiltOrder (target : Byte) (action : OrderAction) (s : State) : State :=
  takeOrder (builtOrder target action s) (originate (.tiltOrder (builtOrder target action s)) s)

end Sys2Proof.Machine
end

