-- ==== Sys2Proof/Machine/Preview.lean ====
section
/-! DEFINITION. PVQ: the taking of samples, consumption, and the lookup (R92 to R105). -/

namespace Sys2Proof.Machine

/-- The most entries a preview queue holds (R92). -/
def queueCapacity : Nat := 256

/-! ## Consumption and lookup -/

/-- The head leaves while the second entry is due not after LP (R101). -/
def consume (lp : Distance) : List PreviewEntry → List PreviewEntry
  | e :: e' :: q => if isAfter e'.due lp then e :: e' :: q else consume lp (e' :: q)
  | q            => q

/-- Both queues are consumed (R101). -/
def consumeQueues (lp : Distance) (s : State) : State :=
  { s with pvq.queueP := consume lp s.pvq.queueP, pvq.queueS := consume lp s.pvq.queueS }

/-- The lookup between two successive entries (R104). -/
def interpolate (d1 d2 : PreviewEntry) (lp : Distance) : Lookup :=
  if 8000 < distanceDiff d2.due d1.due then .hole
  else .covered (d1.accel +
    truncDiv ((d2.accel - d1.accel) * distanceDiff lp d1.due) (distanceDiff d2.due d1.due))

/-- Cases 6 and 7 of R103: the first pair of successive entries with LP at or after the first and before the second. -/
def lookupBetween (lp : Distance) : List PreviewEntry → Lookup
  | d1 :: d2 :: q =>
    if isAtOrAfter lp d1.due && isBefore lp d2.due then interpolate d1 d2 lp else lookupBetween lp (d2 :: q)
  | _ => .beyond

/-- The lookup of a queue at a point (R103). -/
def lookup (lp : Distance) (q : List PreviewEntry) : Lookup :=
  match q.head?, q.getLast? with
  | some head, some tail =>
    if isBefore lp head.due then
      if distanceDiff head.due lp ≤ 4000 then .covered head.accel else .before
    else if isAtOrAfter lp tail.due then
      if distanceDiff lp tail.due ≤ 4000 then .covered tail.accel else .beyond
    else lookupBetween lp q
  | _, _ => .beyond

/-! ## Taking a sample -/

/-- The correction for age, in mm: the age is in units of 10 µs (R95). -/
def ageCorrection (speed ageUnits : Nat) : Nat := speed * (ageUnits * 10) / 1000000

/-- The due distance of a sample, by the offset in use of its source's slot (R95). -/
def dueDistance (odometer : Distance) (speed ageUnits : Nat) (offset : Int) (backdate : Nat) : Distance :=
  distanceAdd odometer (offset - backdate - ageCorrection speed ageUnits)

/-- The slot an identity is bound in, with the source's offset in use (R94). -/
def slotOf (s : State) (id : Identity) : Option (Slot × Int) :=
  match s.src.slotP, s.src.slotS with
  | some x, some y => if x.identity = id then some (.p, x.offset) else if y.identity = id then some (.s, y.offset) else none
  | some x, none   => if x.identity = id then some (.p, x.offset) else none
  | none,   some y => if y.identity = id then some (.s, y.offset) else none
  | none,   none   => none

/-- The queue of a slot. -/
def slotQueue (s : State) : Slot → List PreviewEntry
  | .p => s.pvq.queueP
  | .s => s.pvq.queueS

/-- The state with another queue for a slot. -/
def setSlotQueue (slot : Slot) (q : List PreviewEntry) (s : State) : State :=
  match slot with
  | .p => { s with pvq.queueP := q }
  | .s => { s with pvq.queueS := q }

/-- The counts of a slot. -/
def slotCounts (s : State) : Slot → SlotCounts
  | .p => s.pvq.countsP
  | .s => s.pvq.countsS

/-- The state with other counts for a slot. -/
def setSlotCounts (slot : Slot) (c : SlotCounts) (s : State) : State :=
  match slot with
  | .p => { s with pvq.countsP := c }
  | .s => { s with pvq.countsS := c }

/-- A full queue drops its head to make room; the drop is counted and QUEUE-LOSS raised (R99). -/
def makeRoom (slot : Slot) (s : State) : State :=
  if queueCapacity ≤ (slotQueue s slot).length then
    (setSlotCounts slot { slotCounts s slot with headDrop := addSat16 (slotCounts s slot).headDrop 1 }
      (setSlotQueue slot (slotQueue s slot).tail s)).raise (.queueLoss (.preview slot))
  else s

/-- An entry is put at the tail of a slot's queue and handed to XCK (R100). -/
def joinEntry (slot : Slot) (e : PreviewEntry) (s : State) : State :=
  crossCheck slot e (setSlotQueue slot (slotQueue s slot ++ [e]) s)

/-- The missing sequences before a joining entry are added to the slot's gap count (R97). -/
def countGap (slot : Slot) (missing : Nat) (s : State) : State :=
  setSlotCounts slot { slotCounts s slot with gap := addSat16 (slotCounts s slot).gap missing } s

/-- A sample that fails the join rules is discarded and counted (R98). -/
def countOutOfOrder (slot : Slot) (s : State) : State :=
  setSlotCounts slot { slotCounts s slot with outOfOrder := addSat16 (slotCounts s slot).outOfOrder 1 } s

/-- An entry joins the tail behind an entry it follows (R97). -/
def mayJoin (tail e : PreviewEntry) : Bool := follows e.sequence tail.sequence && isAfter e.due tail.due

/-- The join rules (R96 to R99). -/
def joinOrRefuse (slot : Slot) (e : PreviewEntry) (s : State) : State :=
  match (slotQueue s slot).getLast? with
  | none => joinEntry slot e s
  | some tail =>
    if mayJoin tail e then
      joinEntry slot e (makeRoom slot (countGap slot (missingBetween e.sequence tail.sequence) s))
    else countOutOfOrder slot s

/-- The entry made of a valid sample: its value is clamped to −3,000..3,000 (R94). -/
def entryOf (t : TrackSample) (ageUnits : Nat) (offset : Int) (s : State) : PreviewEntry where
  sequence := t.sequence
  due      := dueDistance s.odo.odometer s.odo.speed ageUnits offset t.backdate.toNat
  accel    := limit 3000 t.accel.toInt

/-- LNK hands PVQ a TRACK-SAMPLE with the age of its acceptance (R94). -/
def takeSample (t : TrackSample) (ageUnits : Nat) (s : State) : State :=
  match slotOf s t.source with
  | none => s
  | some (slot, offset) => if t.valid then joinOrRefuse slot (entryOf t ageUnits offset s) s else s

end Sys2Proof.Machine
end

