-- ==== Sys2Proof/Machine/Source.lean ====
section
/-! DEFINITION. SRC: the stations ahead, eligibility, the ranking, the binding rules and their steps (R65, R74 to
R89). DEDUCED: the comparison of eligible sets and the geometry in FORMING, notes/assumptions/16.md. -/

namespace Sys2Proof.Machine

/-! ## Ahead (R74) -/

/-- The side ahead of this station. -/
def sideAhead : Direction → Option End
  | .unknown => none
  | .towardA => some .a
  | .towardB => some .b

/-- The entries by whose places SRC judges: the roster in FORMED, the previous roster in FORMING, none otherwise. -/
def judgedEntries (r : Rcl) : List RosterEntry :=
  match r.trainState with
  | .formed  => r.roster
  | .forming => r.previousRoster
  | _        => []

/-- The stations ahead. -/
def stationsAhead (s : State) : List RosterEntry :=
  match sideAhead s.odo.direction with
  | none   => []
  | some e => (judgedEntries s.rcl).filter fun x => x.side = .port e

/-! ## Offsets (R65) -/

/-- Whether this station's A end faces end 0, as its own roster entry says. -/
def selfFacesEnd0 (r : Rcl) : Option Bool := (r.roster.find? fun x => x.side = .self).bind RosterEntry.aFacesEnd0

/-- The station travels toward end 0 when its leading end lies on the end-0 side. -/
def travelsTowardEnd0 (s : State) : Option Bool :=
  match s.odo.direction, selfFacesEnd0 s.rcl with
  | .towardA, some f => some f
  | .towardB, some f => some !f
  | _, _             => none

/-- The offset of an entry of a FORMED roster. -/
def rosterOffset (s : State) (x : RosterEntry) : Option Int :=
  match travelsTowardEnd0 s, x.trainDistance with
  | some true,  some d => some (-d)
  | some false, some d => some d
  | _, _               => none

/-- The offset in use of a bound source. -/
def boundOffset (src : Src) (id : Identity) : Option Int :=
  ([src.slotP, src.slotS].filterMap fun b => b.filter fun x => x.identity = id).head?.map Source.offset

/-- The offset by which a station is judged: in FORMED that of R65, in FORMING a bound source's offset in use (R75). -/
def judgedOffset (s : State) (x : RosterEntry) : Option Int :=
  match s.rcl.trainState with
  | .formed  => rosterOffset s x
  | .forming => boundOffset s.src x.identity
  | _        => none

/-! ## Eligibility (R75) -/

/-- The least offset of an eligible source, in mm. -/
def leastOffset : Int := 30000

/-- The entry whose liveness and health are read: while FORMING the entry of the epoch in progress, if there is one (R69). -/
def livenessEntry (r : Rcl) (x : RosterEntry) : RosterEntry :=
  if r.trainState = .forming then (r.roster.find? fun y => y.identity = x.identity).getD x else x

/-- An entry lies on the same side nearer to this station, and is unconfigured. -/
def blocks (x y : RosterEntry) : Bool :=
  decide (y.side = x.side) && decide (y.hop.getD 0 < x.hop.getD 0) && y.unconfigured

/-- The presence and the sensor conditions, by the last CAR-STATE. -/
def reportsWell (now : Nat) (x : RosterEntry) : Bool :=
  match x.lastCarState with
  | none   => false
  | some c => isWithin (ms 1000) now c.time && !c.flags.getLsbD 0

/-- The fresh-sample and sample-health conditions. -/
def samplesWell (now : Nat) (x : RosterEntry) : Bool :=
  match x.lastValid with
  | none   => false
  | some t => isWithin (ms 250) now t && decide (x.invalidCount < 3)

/-- The distance condition. -/
def farEnough (offset : Option Int) : Bool :=
  match offset with
  | none   => false
  | some d => decide (leastOffset ≤ d)

/-- A station ahead is eligible (R75). -/
def isEligible (s : State) (x : RosterEntry) : Bool :=
  !s.svc.unconfigured
    && farEnough (judgedOffset s x)
    && !x.unconfigured && !(judgedEntries s.rcl).any (blocks x)
    && reportsWell s.now (livenessEntry s.rcl x)
    && samplesWell s.now (livenessEntry s.rcl x)

/-- The eligible stations ahead. -/
def eligibleEntries (s : State) : List RosterEntry := (stationsAhead s).filter (isEligible s)

/-! ## Ranking (R77) -/

/-- One source ranks ahead of another: the larger offset, and at the same offset the smaller identity. -/
def ranksAhead (x y : Source) : Bool :=
  decide (y.offset < x.offset) || (decide (x.offset = y.offset) && decide (x.identity.toNat ≤ y.identity.toNat))

/-- A source takes its place in a ranking. -/
def insertRanked (x : Source) : List Source → List Source
  | []     => [x]
  | y :: r => if ranksAhead x y then x :: y :: r else y :: insertRanked x r

/-- A list of sources in the order of rank. -/
def rankSources : List Source → List Source
  | []     => []
  | x :: r => insertRanked x (rankSources r)

/-- The eligible set in order of rank; in FORMING the ranking before is kept. -/
def newRanking (s : State) : List Source :=
  match s.rcl.trainState with
  | .forming => s.src.ranking
  | _ => rankSources ((eligibleEntries s).filterMap fun x => (judgedOffset s x).map fun d => ⟨x.identity, d⟩)

/-! ## The judgement (R76) -/

/-- SRC judges eligibility: the new eligible set, ranking and head flag. -/
def judgeSources (s : State) : State :=
  { s with
    src.eligible := (eligibleEntries s).map RosterEntry.identity
    src.ranking  := newRanking s
    src.headFlag := (stationsAhead s).isEmpty }

/-- An identity is bound in a slot. -/
def isBound (src : Src) (id : Identity) : Bool :=
  (src.slotP.any fun x => x.identity = id) || (src.slotS.any fun x => x.identity = id)

/-- The judgement calls for a full evaluation: a bound source has become ineligible, or an unbound station eligible. -/
def callsFull (src : Src) (new : List Identity) : Bool :=
  (src.eligible.any fun id => isBound src id && !new.contains id)
    || (new.any fun id => !isBound src id && !src.eligible.contains id)

/-! ## The binding rules (R78 to R85), over the two slots with their queues -/

/-- The slots and their queues while one step works on them; `changed`: a slot has been bound, emptied or moved. -/
structure Slots where
  p       : Option Source
  s       : Option Source
  queueP  : List PreviewEntry
  queueS  : List PreviewEntry
  changed : Bool
deriving DecidableEq, Repr

/-- The slots as a step finds them. -/
def slotsOf (s : State) : Slots where
  p       := s.src.slotP
  s       := s.src.slotS
  queueP  := s.pvq.queueP
  queueS  := s.pvq.queueS
  changed := false

/-- What a judgement gives the binding rules to work with. -/
structure Grounds where
  forming  : Bool
  eligible : List Identity
  ranking  : List Source
  lp       : Option Distance
  latch    : Bool
deriving DecidableEq, Repr

/-- The grounds as the last judgement and the other units leave them. -/
def groundsOf (s : State) : Grounds where
  forming  := s.rcl.trainState == .forming
  eligible := s.src.eligible
  ranking  := s.src.ranking
  lp       := s.dmd.lookaheadPoint
  latch    := s.xck.splitLatch

/-- S is emptied and its queue flushed. -/
def emptyS (x : Slots) : Slots := { x with s := none, queueS := [], changed := x.changed || x.s.isSome }

/-- P is emptied and its queue flushed. -/
def emptyP (x : Slots) : Slots := { x with p := none, queueP := [], changed := x.changed || x.p.isSome }

/-- S's source moves into P with its queue and offset in use, and S becomes empty. -/
def moveSToP (x : Slots) : Slots :=
  { x with p := x.s, queueP := x.queueS, s := none, queueS := [], changed := true }

/-- P and S exchange places, each with its queue. -/
def exchangeSlots (x : Slots) : Slots :=
  { x with p := x.s, s := x.p, queueP := x.queueS, queueS := x.queueP, changed := true }

/-- A source is bound into S, whose queue starts empty. -/
def bindS (b : Source) (x : Slots) : Slots := { x with s := some b, queueS := [], changed := true }

/-- S is covering (R79). -/
def covering (lp : Option Distance) (x : Slots) : Bool :=
  match x.s, x.queueS, lp with
  | some _, head :: _, some point => !isAfter head.due point
  | _, _, _ => false

/-- The source bound in a slot is eligible. -/
def slotEligible (g : Grounds) (b : Option Source) : Bool :=
  match b with
  | some x => g.eligible.contains x.identity
  | none   => false

/-- The loss of the primary (R81). -/
def losePrimary (g : Grounds) (x : Slots) : Slots :=
  if x.p.isSome && !slotEligible g x.p then
    if slotEligible g x.s && covering g.lp x then moveSToP x else emptyP x
  else x

/-- The loss of the second (R82). -/
def loseSecond (g : Grounds) (x : Slots) : Slots :=
  if x.s.isSome && !slotEligible g x.s then emptyS x else x

/-- The desired primary takes its way to P through S (R83); not applied in FORMING (R80). -/
def raiseDesired (g : Grounds) (x : Slots) : Slots :=
  if g.forming then x
  else
    match x.p, g.ranking with
    | some p, desired :: _ =>
      if p.identity = desired.identity then x
      else if slotIdentity x.s = desired.identity && x.s.isSome then
        if covering g.lp x && !g.latch then exchangeSlots x else x
      else bindS desired x
    | _, _ => x

/-- A covering S fills an empty P (R84). -/
def promoteSecond (g : Grounds) (x : Slots) : Slots :=
  if x.p.isNone && covering g.lp x then moveSToP x else x

/-- The best-ranked source other than P's fills an empty S (R85); not applied in FORMING (R80). -/
def fillSecond (g : Grounds) (x : Slots) : Slots :=
  if g.forming || x.s.isSome then x
  else
    match g.ranking.find? fun b => !(x.p.any fun p => p.identity = b.identity) with
    | some b => bindS b x
    | none   => x

/-- The full evaluation: R81 to R85 in their order (R80). -/
def fullEvaluation (g : Grounds) (x : Slots) : Slots :=
  fillSecond g (promoteSecond g (raiseDesired g (loseSecond g (losePrimary g x))))

/-- The promotion check: R83 and R84, and R85 if a binding changed (R80). -/
def promotionCheck (g : Grounds) (x : Slots) : Slots :=
  let y := promoteSecond g (raiseDesired g x)
  if y.changed then fillSecond g y else y

/-! ## The steps (R86) -/

/-- The slots are written back, with their queues (R106). -/
def putSlots (x : Slots) (s : State) : State :=
  { s with src.slotP := x.p, src.slotS := x.s, pvq.queueP := x.queueP, pvq.queueS := x.queueS }

/-- SOURCE-CHANGE with the identity in P before the step and the identities in P and S after it. -/
def raiseSourceChange (cause : SourceCause) (pBefore : Identity) (s : State) : State :=
  s.raise (.sourceChange cause pBefore (slotIdentity s.src.slotP) (slotIdentity s.src.slotS))

/-- One step ends: its slots are written back, and if it changed a binding, it is handed to XCK and reported. -/
def endStep (cause : SourceCause) (pBefore : Identity) (x : Slots) (s : State) : State :=
  if x.changed then raiseSourceChange cause pBefore (resetSplit .binding (putSlots x s)) else putSlots x s

/-- The rules that move or empty slots are applied in FORMED and FORMING alone (R80). -/
def rulesApply (r : Rcl) : Bool := r.trainState == .formed || r.trainState == .forming

/-- A judgement at a frame that RCL has applied, and the full evaluation if it calls for one (R76). -/
def judgeAtFrame (s : State) : State :=
  let s' := judgeSources s
  if rulesApply s.rcl && callsFull s.src s'.src.eligible then
    endStep .eligibility (slotIdentity s.src.slotP) (fullEvaluation (groundsOf s') (slotsOf s')) s'
  else s'

/-- The judgement of a control expiry, with its full evaluation or its promotion check (R76, R80). -/
def judgeAtExpiry (s : State) : State :=
  let s' := judgeSources s
  if !rulesApply s.rcl then s'
  else if callsFull s.src s'.src.eligible then
    endStep .eligibility (slotIdentity s.src.slotP) (fullEvaluation (groundsOf s') (slotsOf s')) s'
  else
    endStep .promotion (slotIdentity s.src.slotP) (promotionCheck (groundsOf s') (slotsOf s')) s'

/-- SRC at a reversal: both slots are emptied, eligibility is judged anew, and in FORMED a full evaluation made (R87);
PVQ's own flush at the reversal (R107) is the emptying of both queues here. -/
def sourceReversal (s : State) : State :=
  let emptied := emptyS (emptyP (slotsOf s))
  let s' := judgeSources (putSlots emptied s)
  let x := if s.rcl.trainState = .formed then fullEvaluation (groundsOf s') emptied else emptied
  endStep .reversal (slotIdentity s.src.slotP) x s'

/-- The new offset of a bound source that the new roster holds (R88). -/
def newOffset (s : State) (b : Source) : Option Int :=
  (s.rcl.roster.find? fun x => x.identity = b.identity).bind (rosterOffset s)

/-- P is kept with its new offset, or emptied where the offset differs by more than 100 mm (R88). -/
def reoffsetP (s : State) (x : Slots) : Slots :=
  match x.p with
  | none => x
  | some b =>
    match newOffset s b with
    | none   => x
    | some d => if 100 < (d - b.offset).natAbs then emptyP x else { x with p := some { b with offset := d } }

/-- S is kept with its new offset, or emptied where the offset differs by more than 100 mm (R88). -/
def reoffsetS (s : State) (x : Slots) : Slots :=
  match x.s with
  | none => x
  | some b =>
    match newOffset s b with
    | none   => x
    | some d => if 100 < (d - b.offset).natAbs then emptyS x else { x with s := some { b with offset := d } }

/-- SRC at a formation into FORMED (R88). -/
def sourceFormed (s : State) : State :=
  let kept := reoffsetS s (reoffsetP s (slotsOf s))
  let s' := judgeSources (putSlots kept s)
  endStep .formation (slotIdentity s.src.slotP) (fullEvaluation (groundsOf s') kept) s'

/-- SRC at a formation into OVERSIZE or CONFLICT: both slots are emptied, the set and the ranking cleared, and the head
flag set (R89). -/
def sourceNotFormed (s : State) : State :=
  endStep .formation (slotIdentity s.src.slotP) (emptyS (emptyP (slotsOf s)))
    { s with src.eligible := [], src.ranking := [], src.headFlag := true }

end Sys2Proof.Machine
end

