-- ==== Sys2Proof/Machine/Odometry.lean ====
section
/-! DEFINITION. ODO and TSU: pulses, the odometer, the speed and its decay, direction and reversal, and the sampling of
the track (R1 to R13, R26 to R30). -/

namespace Sys2Proof.Machine

/-! ## ODO -/

/-- The level of T2 at a rising edge of T1: where T2 changes in the edge's own sample, the level in the sample before (R1). -/
def t2AtEdge (before now : Bool) : Bool := if before = now then now else before

/-- The sense of a pulse: T2 low gives TOWARD-B, T2 high TOWARD-A (R1). -/
def pulseSense (t2High : Bool) : Direction := if t2High then .towardA else .towardB

/-- A pulse in a known direction state whose sense differs from it (R7). -/
def isReversal (sense : Direction) (o : Odo) : Bool := o.direction != .unknown && o.direction != sense

/-- The odometer and fraction advance by one pulse length (R4). -/
def advanceOdometer (o : Odo) : Odo :=
  { o with
    odometer := o.odometer + BitVec.ofNat 32 ((o.fraction + o.pulseLength) / 1024)
    fraction := (o.fraction + o.pulseLength) % 1024 }

/-- A speed in mm/s from a pulse length and a time in µs, before the clamp (R10, R12). -/
def speedOver (pulseLength us : Nat) : Nat := pulseLength * 15625 / (16 * us)

/-- The time since the reference pulse (R10, R12). -/
def sinceReference (o : Odo) : Nat := o.overflowCount * 65536 + o.captureCounter

/-- The period a pulse ends; 0 is taken as 1 (R10). -/
def measuredPeriod (o : Odo) : Nat := max 1 (sinceReference o)

/-- The speed that the ended period yields (R10). -/
def pulseSpeed (o : Odo) : Nat := clampNat 0 120000 (speedOver o.pulseLength (measuredPeriod o))

/-- The measurement is VOID with speed 0, as at standstill (R3, R11, R15). -/
def voidMeasurement (o : Odo) : Odo :=
  { o with measurement := .void, captureCounter := 0, overflowCount := 0, speed := 0 }

/-- The pulse becomes the reference of a measurement that has yielded no speed (R7, R9). -/
def startMeasurement (o : Odo) : Odo :=
  { o with measurement := .started, captureCounter := 0, overflowCount := 0, speed := 0 }

/-- The pulse ends a period, yields its speed and becomes the new reference (R10). -/
def endPeriod (o : Odo) : Odo :=
  { o with
    measurement    := .timed (measuredPeriod o) (pulseSpeed o)
    captureCounter := 0
    overflowCount  := 0
    speed          := pulseSpeed o }

/-- What a pulse does to the measurement (R7, R9, R10). -/
def measurePulse (reversal : Bool) (o : Odo) : Odo :=
  if reversal || decide (o.measurement = .void) then startMeasurement o else endPeriod o

/-- All the changes of ODO for one pulse, as one step (R8). -/
def takePulse (sense : Direction) (o : Odo) : Odo :=
  { measurePulse (isReversal sense o) (advanceOdometer o) with direction := sense }

/-- A wrap of the capture counter; at the eighth the car is taken to be standing (R11). -/
def takeWrap (o : Odo) : Odo :=
  if o.measurement = .void then o
  else if 7 ≤ o.overflowCount then voidMeasurement o
  else { o with captureCounter := 0, overflowCount := o.overflowCount + 1 }

/-- The speed is lowered by the decay bound (R12). -/
def evaluateSpeed (o : Odo) : Odo :=
  match o.measurement with
  | .timed period speed =>
    { o with
      speed := if period < sinceReference o then min speed (speedOver o.pulseLength (sinceReference o)) else speed }
  | _ => o

/-- The pulse length that a loaded record gives; a new value voids the measurement (R3). -/
def takePulseLength (pulseLength : Nat) (o : Odo) : Odo :=
  if pulseLength = o.pulseLength then o else voidMeasurement { o with pulseLength := pulseLength }

/-! ## TSU -/

/-- The least speed at which TSU samples, in mm/s (R26). -/
def samplingSpeed : Nat := 5000

/-- The sampling conditions (R26). -/
def samplingConditions (s : State) : Bool :=
  decide (s.svc.startState = .done) && s.odo.direction != .unknown && decide (samplingSpeed ≤ s.odo.speed)

/-- An interval starts at the odometer as it stands (R26, R28). -/
def startInterval (s : State) : State :=
  { s with
    tsu.sampling      := .running
    tsu.intervalStart := s.odo.odometer
    tsu.intervalSum   := 0
    tsu.intervalCount := 0 }

/-- The running interval is discarded (R29). -/
def discardInterval (s : State) : State :=
  { s with tsu.sampling := .idle, tsu.intervalSum := 0, tsu.intervalCount := 0 }

/-- The length of the running interval (R28). -/
def intervalLength (s : State) : Int := distanceDiff s.odo.odometer s.tsu.intervalStart

/-- The acceleration that a sample reports (R28). -/
def intervalMean (u : Tsu) : Int := if u.intervalCount = 0 then 0 else limit 3000 (truncDiv u.intervalSum u.intervalCount)

/-- The TRACK-SAMPLE that closes the running interval (R28). -/
def closingSample (s : State) : TrackSample where
  source   := s.svc.config.identity
  sequence := s.tsu.sequence + 1
  accel    := BitVec.ofInt 16 (intervalMean s.tsu)
  valid    := decide (2 ≤ s.tsu.intervalCount) && !s.sns.bogieHealth.fault
  backdate := BitVec.ofInt 15 (truncDiv (intervalLength s) 2)

/-- TSU closes the interval, publishes its sample, and starts the next one at the same pulse (R28, R30). -/
def publishSample (s : State) : State :=
  originate (.trackSample (closingSample s)) (startInterval { s with tsu.sequence := s.tsu.sequence + 1 })

/-- TSU judges a pulse (R26, R28). -/
def samplePulse (s : State) : State :=
  if samplingConditions s then
    match s.tsu.sampling with
    | .idle    => startInterval s
    | .running => if 2000 ≤ intervalLength s then publishSample s else s
  else
    match s.tsu.sampling with
    | .idle    => s
    | .running => discardInterval s

/-- TSU judges a poll expiry (R26). -/
def samplePoll (s : State) : State :=
  match s.tsu.sampling with
  | .idle    => if samplingConditions s then startInterval s else s
  | .running => if samplingConditions s then s else discardInterval s

/-! ## A reversal (R7) -/

/-- TSU at a reversal: a running interval is discarded (R29). -/
def sampleReversal (s : State) : State :=
  match s.tsu.sampling with
  | .idle    => s
  | .running => discardInterval s

/-- DMD at a reversal (R146). -/
def demandReversal (s : State) : State := { s with dmd.holdRemainder := 0 }

/-- The reversal is announced to SRC (with PVQ), TSU, DMD and XCK; XCK takes it before or after SRC's step (R118). -/
def announceReversal (crossCheckFirst : Bool) (s : State) : State :=
  let s' := demandReversal (sampleReversal s)
  if crossCheckFirst then sourceReversal (resetSplit .reversal s')
  else resetSplit .reversal (sourceReversal s')

/-- A pulse: ODO's changes, a reversal's announcement, then the hand to TSU (R8). -/
def tachometerPulse (sense : Direction) (crossCheckFirst : Bool) (s : State) : State :=
  let s' := { s with odo := takePulse sense s.odo }
  samplePulse (if isReversal sense s.odo then announceReversal crossCheckFirst s' else s')

end Sys2Proof.Machine
end

