-- ==== Sys2Proof/Machine/Sensing.lean ====
section
/-! DEFINITION. SNS: the judgement of frames, the fault states, the local window, and the exchanges of a poll (R16 to
R25). DEDUCED: the exchange in progress is state, notes/assumptions/9.md. -/

namespace Sys2Proof.Machine

/-! ## The judgement of a frame (R17, R18) -/

/-- How a frame is judged: good, with its value as it came, or bad for the first cause that applies. -/
inductive Verdict where
  | good (value : Int)
  | noReply
  | checkFailure
  | wrongAddress
  | faultStatus
  | outOfRange
deriving DecidableEq, Repr

/-- The causes that the two units share, in the order of R17 and R18. -/
def judgeReply (unit : SensorUnit) (r : SensorReply) : Verdict :=
  if r.check ≠ checkOf (replyCovered r) then .checkFailure
  else if r.address ≠ unitAddress unit then .wrongAddress
  else if r.status ≠ 0 then .faultStatus
  else .good r.value.toInt

/-- A body-angle reply is judged: its value must lie in −15,000..15,000 as well (R18). -/
def judgeBodyReply (r : SensorReply) : Verdict :=
  match judgeReply .body r with
  | .good v => if v < -15000 || 15000 < v then .outOfRange else .good v
  | v       => v

/-- A unit's bad-frame counts with one more of a cause; causes kept elsewhere leave them (R19). -/
def countBad (v : Verdict) (c : BadFrameCounts) : BadFrameCounts :=
  match v with
  | .noReply      => { c with noReply := addSat16 c.noReply 1 }
  | .checkFailure => { c with checkFailure := addSat16 c.checkFailure 1 }
  | .wrongAddress => { c with wrongAddress := addSat16 c.wrongAddress 1 }
  | .faultStatus  => { c with faultStatus := addSat16 c.faultStatus 1 }
  | .outOfRange   => c
  | .good _       => c

/-! ## The fault states (R20) -/

/-- A frame is good. -/
def Verdict.isGood : Verdict → Bool
  | .good _ => true
  | _       => false

/-- A unit's fault state after a frame (R20). -/
def healthAfter (good : Bool) (h : SensorHealth) : SensorHealth :=
  match h.fault, good with
  | false, true  => { h with bad := 0 }
  | false, false => if 3 ≤ h.bad + 1 then { fault := true, bad := 0, good := 0 } else { h with bad := h.bad + 1 }
  | true,  true  => if 20 ≤ h.good + 1 then { fault := false, bad := 0, good := 0 } else { h with good := h.good + 1 }
  | true,  false => { h with good := 0 }

/-- The change of the fault state between two of its values, if there is one. -/
def faultChange (before after : SensorHealth) : Option Change :=
  match before.fault, after.fault with
  | false, true => some .set
  | true, false => some .clear
  | _, _        => none

/-- BOGIE-FAULT is judged after a bogie frame; its setting empties the local window (R20, R22). -/
def countBogieFrame (good : Bool) (s : State) : State :=
  let after := healthAfter good s.sns.bogieHealth
  let s' := { s with sns.bogieHealth := after }
  match faultChange s.sns.bogieHealth after with
  | some .set   => ({ s' with sns.window := [] }).raise (.sensorFault .bogie .set)
  | some .clear => s'.raise (.sensorFault .bogie .clear)
  | none        => s'

/-- BODY-FAULT is judged after a body-angle frame; its setting fails the actuator (R20, R21). -/
def countBodyFrame (good : Bool) (s : State) : State :=
  let after := healthAfter good s.sns.bodyHealth
  let s' := { s with sns.bodyHealth := after }
  match faultChange s.sns.bodyHealth after with
  | some .set   => failActuator .sensor (s'.raise (.sensorFault .body .set))
  | some .clear => s'.raise (.sensorFault .body .clear)
  | none        => s'

/-! ## The local window (R24, R25) -/

/-- A value joins the end of the window; from a full window of 20 the oldest leaves. -/
def joinWindow (v : Int) (w : List Int) : List Int := if 20 ≤ w.length then w.tail ++ [v] else w ++ [v]

/-- The local value a_local: the mean of the window, 0 when it is empty (R25). -/
def localValue (w : List Int) : Int := if w.isEmpty then 0 else truncDiv w.sum w.length

/-! ## What a frame does -/

/-- A good bogie value joins the running interval (R27). -/
def joinInterval (v : Int) (u : Tsu) : Tsu :=
  if u.sampling = .running && decide (u.intervalCount < 255) then
    { u with intervalSum := u.intervalSum + v, intervalCount := u.intervalCount + 1 }
  else u

/-- A good bogie frame's value, clamped, becomes the last value and joins the window and the running interval (R17). -/
def useBogieValue (raw : Int) (s : State) : State :=
  { s with
    sns.counters.bogieClamped :=
      if 6000 < raw.natAbs then addSat16 s.sns.counters.bogieClamped 1 else s.sns.counters.bogieClamped
    sns.lastBogie := limit 6000 raw
    sns.window    := joinWindow (limit 6000 raw) s.sns.window
    tsu           := joinInterval (limit 6000 raw) s.tsu }

/-- A judged bogie frame takes its effect (R17, R19, R20). -/
def takeBogieFrame (v : Verdict) (s : State) : State :=
  match v with
  | .good raw => countBogieFrame true (useBogieValue raw s)
  | bad       => countBogieFrame false { s with sns.counters.bogie := countBad bad s.sns.counters.bogie }

/-- A judged body-angle frame takes its effect (R18, R19, R20). -/
def takeBodyFrame (v : Verdict) (s : State) : State :=
  match v with
  | .good theta  => countBodyFrame true { s with sns.lastBody := theta }
  | .outOfRange  =>
    countBodyFrame false { s with sns.counters.bodyOutOfRange := addSat16 s.sns.counters.bodyOutOfRange 1 }
  | bad          => countBodyFrame false { s with sns.counters.body := countBad bad s.sns.counters.body }

/-! ## The exchanges (R16) -/

/-- SNS sends its request to a unit and waits for the reply (R16). DESIGN CHOICE: the wait counts from the sending, as if
the request took no time, notes/assumptions/30.md. -/
def sendSensorRequest (unit : SensorUnit) (s : State) : State :=
  { s with sns.wait := .waiting unit 0, sns.request := sensorRequest unit }

/-- The unit whose reply SNS waits for. -/
def awaited : SensorWait → Option SensorUnit
  | .idle         => none
  | .waiting u _  => some u

/-- The bogie exchange ends: its frame is judged, and the request to the body-angle unit is sent. -/
def endBogieExchange (v : Verdict) (s : State) : State := sendSensorRequest .body (takeBogieFrame v s)

/-- The body-angle exchange, and with it the poll, ends. -/
def endBodyExchange (v : Verdict) (s : State) : State := { takeBodyFrame v s with sns.wait := .idle }

end Sys2Proof.Machine
end

