-- ==== Sys2Proof/Machine/Demand.lean ====
section
/-! DEFINITION. DMD: the stages of a control expiry after START (R124 to R144). DEDUCED, safe: the advance is signed,
notes/assumptions/20.md. -/

namespace Sys2Proof.Machine

/-! ## Lookahead (R125) -/

/-- The lookahead distance, in mm. -/
def lookaheadDistance (speed time : Nat) : Nat := clampNat 0 40000 (speed * time / 1000)

/-- Stage 2: the lookahead distance and LP. -/
def workLookahead (s : State) : State :=
  let l := lookaheadDistance s.odo.speed s.svc.config.lookaheadTime
  { s with dmd.lookahead := l, dmd.lookaheadPoint := some (s.odo.odometer + BitVec.ofNat 32 l) }

/-- LP as this expiry has worked it out. -/
def currentPoint (s : State) : Distance := s.dmd.lookaheadPoint.getD s.odo.odometer

/-- Stages 3 and 4: SRC's judgement and evaluation, PVQ's consumption, and the lookup of P at LP (R101, R105). -/
def workPreview (s : State) : State :=
  let s' := consumeQueues (currentPoint s) (judgeAtExpiry s)
  { s' with pvq.lastLookup := some (lookup (currentPoint s) s'.pvq.queueP) }

/-- Stage 5: in HOLD the remainder is lowered by the advance of the odometer, and stops at 0 (R133). -/
def workHold (s : State) : State :=
  if s.dmd.mode = .hold then
    { s with
      dmd.holdRemainder := ((s.dmd.holdRemainder : Int) - distanceDiff s.odo.odometer s.dmd.lastOdometer).toNat }
  else s

/-! ## The mode (R126 to R136) -/

/-- The train standing judged from the train state (R129). -/
def judgedStanding (train standing : TrainState) : TrainState := if train = .forming then standing else train

/-- The speed condition (R128, R130). -/
def speedUpright (c : ConfigRecord) (before : TiltMode) (speed : Nat) : Bool :=
  decide (speed < c.switchOff) || (decide (before = .upright) && decide (speed < c.switchOn))

/-- The first upright condition that holds, in the order of R128. -/
def uprightCondition (s : State) : Option ModeCause :=
  if s.cso.inhibit then some .inhibit
  else if s.dmd.localInhibit then some .localInhibit
  else if s.cso.orderInhibit then some .orderInhibit
  else if s.dmd.standing ≠ .formed then some .train
  else if s.odo.direction = .unknown then some .direction
  else if speedUpright s.svc.config s.dmd.mode s.odo.speed then some .speed
  else if !s.act.supplyOk then some .supply
  else none

/-- A lookup is COVERED. -/
def isCovered : Option Lookup → Bool
  | some (.covered _) => true
  | _                 => false

/-- The cause of an entry into HOLD (R132). -/
def holdCause (s : State) : ModeCause :=
  if s.src.slotP.isNone then .pEmpty
  else if s.xck.splitLatch then .split
  else
    match s.pvq.lastLookup with
    | some .before => .before
    | some .hole   => .hole
    | _            => .beyond

/-- Stage 6: the mode chosen by the judgements of R126, with the cause a change to it has (R136). -/
def chosenMode (s : State) : TiltMode × ModeCause :=
  if s.act.failedLatch then (.failed, .failedLatch)
  else
    match uprightCondition s with
    | some cause => (.upright, cause)
    | none =>
      if s.src.slotP.isSome && !s.xck.splitLatch && isCovered s.pvq.lastLookup then (.preview, .covered)
      else if s.dmd.mode = .preview || (s.dmd.mode = .hold && decide (0 < s.dmd.holdRemainder)) then
        (.hold, holdCause s)
      else if !s.sns.bogieHealth.fault then
        (.localBogie, if s.dmd.mode = .hold then .holdEnded else .noPreview)
      else (.upright, .bogieFault)

/-- What a change of mode does to the hold: an entry starts it with the last demand, a change out of it ends it (R132). -/
def workHoldChange (before after : TiltMode) (s : State) : State :=
  if after = .hold then { s with dmd.holdRemainder := holdSpan, dmd.heldDemand := s.dmd.lastDemand }
  else if before = .hold then { s with dmd.holdRemainder := 0 }
  else s

/-- The mode takes its new value; an unchanged mode raises nothing (R126, R136). -/
def takeMode (chosen : TiltMode × ModeCause) (s : State) : State :=
  if chosen.1 = s.dmd.mode then s
  else changeMode chosen.1 chosen.2 (workHoldChange s.dmd.mode chosen.1 s)

/-- Stage 6: the train standing, then the mode. -/
def workMode (s : State) : State :=
  let s' := { s with dmd.standing := judgedStanding s.rcl.trainState s.dmd.standing }
  takeMode (chosenMode s') s'

/-! ## The demand (R137, R138) -/

/-- The demand of an acceleration at a compensation: trunc(c × a × 3,829 / 65,536), a clamped to ±2,000. -/
def compensationDemand (compensation : Nat) (accel : Int) : Int :=
  truncDiv (compensation * limit 2000 accel * 3829) 65536

/-- The value of a COVERED lookup. -/
def coveredValue : Option Lookup → Int
  | some (.covered a) => a
  | _                 => 0

/-- The demand of the mode (R138). -/
def modeDemand (s : State) : Int :=
  match s.dmd.mode with
  | .preview    => compensationDemand s.svc.config.compensation (coveredValue s.pvq.lastLookup)
  | .localBogie => compensationDemand s.svc.config.localComp (localValue s.sns.window)
  | .hold       => s.dmd.heldDemand
  | .upright | .failed | .start => 0

/-- Stage 7. -/
def workDemand (s : State) : State := { s with dmd.lastDemand := modeDemand s }

/-! ## The clamps (R139 to R141) -/

/-- The gangway clamp of an angle-clamped demand (R141). -/
def gangwayClamp (gangway : Nat) (a b : Option Int) (demand : Int) : Int :=
  match a, b with
  | none,   none   => demand
  | some n, none   => clampInt (n - gangway) (n + gangway) demand
  | none,   some n => clampInt (n - gangway) (n + gangway) demand
  | some m, some n =>
    if min m n + gangway < max m n - gangway then truncDiv (m + n) 2
    else clampInt (max m n - gangway) (min m n + gangway) demand

/-- The target: the angle clamp, then in the tilting modes the gangway clamp and the angle limit once more. -/
def modeTarget (s : State) : Int :=
  match s.dmd.mode with
  | .localBogie | .preview | .hold =>
    limit s.svc.config.angleLimit
      (gangwayClamp s.svc.config.gangwayLimit (neighbourAngle s .a) (neighbourAngle s .b)
        (limit s.svc.config.angleLimit s.dmd.lastDemand))
  | .upright | .failed | .start => 0

/-- Stage 8. -/
def workTarget (s : State) : State := { s with dmd.target := modeTarget s }

/-! ## The rate step (R142, R143) -/

/-- The command moves toward the target by at most the step. -/
def stepToward (step : Nat) (command target : Int) : Int :=
  if (target - command).natAbs ≤ step then target
  else if command < target then command + step
  else command - step

/-- Stage 9. -/
def workCommand (s : State) : State :=
  { s with dmd.command := stepToward (rateStep s.svc.config) s.dmd.command s.dmd.target }

/-! ## The expiry (R124) -/

/-- Stage 10: ACT takes the hand, and the odometer is kept. -/
def workHand (s : State) : State := { handCommand s with dmd.lastOdometer := s.odo.odometer }

/-- A control expiry: the evaluation of the speed, and after START the ten stages (R124). -/
def controlExpiry (s : State) : State :=
  let s' := { s with odo := evaluateSpeed s.odo }
  if s.svc.startState = .loading then s'
  else workHand (workCommand (workTarget (workDemand (workMode (workHold (workPreview (workLookahead s')))))))

end Sys2Proof.Machine
end

