-- ==== Sys2Proof/WellFormed.lean ====
section
/-! DEFINITION. Which terms of `Instr` spell a command of the table. A term that fails here describes no event of the
ET16: its operands contradict the row it stands for, or no message can hold them. -/

namespace Sys2Proof

/-- The hop byte of a complete frame: a hop above 15 ends the frame as a format error before it is complete (R39). -/
def LinkFrame.wf (f : LinkFrame) : Bool := decide (f.hop.toNat ≤ 15)

/-- The byte is in fact a format error (R39). -/
def FormatError.wf : FormatError → Bool
  | .kind byte => decide (byte.toNat < 1) || decide (5 < byte.toNat)
  | .hop byte  => decide (15 < byte.toNat)

/-- A payload that the length byte of a service message can give (R180). -/
def payloadWf (payload : List Byte) : Bool := decide (payload.length ≤ 255)

/-- A request whose check fails or whose code names no request (R170). -/
def isUnknownRequest (code : Byte) (payload : List Byte) (check : Check) : Bool :=
  (check != Machine.checkOf (Machine.messageCovered code payload)) || decide (code.toNat < 1) || decide (9 < code.toNat)

/-- The well-formed commands. -/
def Instr.wf : Instr → Bool
  | .powerOn _ _ => true
  | .tachometerPulse _ _ _ _ => true
  | .captureCounterWrap _ => true
  | .pollExpiry _ => true
  | .bogieFrame _ _ => true
  | .bodyAngleFrame _ _ => true
  | .sensorReplyTimeout _ => true
  | .lineSignalDetected _ _ => true
  | .signalLoss _ _ => true
  | .settleTimeExpiry _ _ => true
  | .farEndUp _ _ => true
  | .flagTimeExpiry _ _ => true
  | .markerTimeExpiry _ _ => true
  | .frameTruncated _ _ _ => true
  | .frameFormatError _ _ error => error.wf
  | .linkFrameReceived _ _ frame _ _ _ => frame.wf
  | .transmitComplete _ _ => true
  | .triggerHoldExpiry _ => true
  | .quietTimerExpiry _ => true
  | .controlExpiry _ => true
  | .supplyOkLineChange _ _ => true
  | .supplyOkDebounceExpiry _ => true
  | .inhibitLineChange _ _ => true
  | .inhibitDebounceExpiry _ => true
  | .carStateTimerExpiry _ => true
  | .configReadComplete _ _ _ => true
  | .configLoadRetry _ => true
  | .configLoadTimeout _ _ => true
  | .requestGapTimeout _ => true
  | .unknownRequest _ code payload check => payloadWf payload && isUnknownRequest code payload check
  | .readStatus _ payload => payloadWf payload
  | .readRoster _ payload => payloadWf payload
  | .readSlots _ payload => payloadWf payload
  | .readCounters _ payload => payloadWf payload
  | .fetchEvent _ payload => payloadWf payload
  | .setLocalInhibit _ payload => payloadWf payload
  | .sendOrder _ payload => payloadWf payload
  | .resetFailed _ payload => payloadWf payload
  | .restart _ payload => payloadWf payload
  | .startPatternFound _ _ => true

end Sys2Proof
end

