-- ==== Sys2Proof/Machine/Outcome.lean ====
section
/-! DEFINITION. The outcome of a command. -/

namespace Sys2Proof.Machine

/-- What a command answers. -/
abbrev Answered := Host.Outcome State Fault Refusal

/-- A command whose operands may contradict its row answers its next state where they do not, and otherwise the fault
`illFormed` (notes/assumptions/4.md). -/
def whenWf (wf : Bool) (next : State) : Answered := if wf then .next next else .fault .illFormed

end Sys2Proof.Machine
end

