-- ==== Sys2Proof/Machine/ControlFamily.lean ====
section
/-! DEFINITION. The meanings of CONTROL_EXPIRY, of the two input lines' commands, and of CAR_STATE_TIMER_EXPIRY. -/

namespace Sys2Proof.Machine

/-- CONTROL_EXPIRY (R124). -/
def execControlExpiry (t : Lapse) (s : State) : Answered := .next (controlExpiry (s.lapse t))

/-- The raw SUPPLY-OK level becomes another; a return to the debounced level sets the debounce time back (R150). -/
def changeRawSupply (high : Bool) (s : State) : State :=
  { s with
    act.rawSupply    := high
    act.debounceTime := if high = s.act.supplyOk then 0 else s.act.debounceTime }

/-- SUPPLY_OK_LINE_CHANGE (R150). -/
def execSupplyOkLineChange (t : Lapse) (high : Bool) (s : State) : Answered := .next (changeRawSupply high (s.lapse t))

/-- The debounce time runs only while the raw level differs from the debounced level (R150). -/
def expireSupplyDebounce (s : State) : State := if s.act.rawSupply = s.act.supplyOk then s else supplyChanges s

/-- SUPPLY_OK_DEBOUNCE_EXPIRY (R150, R151). -/
def execSupplyOkDebounceExpiry (t : Lapse) (s : State) : Answered := .next (expireSupplyDebounce (s.lapse t))

/-- The raw INHIBIT level becomes another; a return to the debounced level sets the debounce time back (R163). -/
def changeRawInhibit (active : Bool) (s : State) : State :=
  { s with
    cso.rawInhibit   := active
    cso.debounceTime := if active = s.cso.inhibit then 0 else s.cso.debounceTime }

/-- INHIBIT_LINE_CHANGE (R163). -/
def execInhibitLineChange (t : Lapse) (active : Bool) (s : State) : Answered :=
  .next (changeRawInhibit active (s.lapse t))

/-- The debounce time runs only while the raw level differs from the debounced level (R163). -/
def expireInhibitDebounce (s : State) : State := if s.cso.rawInhibit = s.cso.inhibit then s else inhibitChanges s

/-- INHIBIT_DEBOUNCE_EXPIRY (R163). -/
def execInhibitDebounceExpiry (t : Lapse) (s : State) : Answered := .next (expireInhibitDebounce (s.lapse t))

/-- A CAR-STATE timer that is stopped does not expire (R159). -/
def expireCarStateTimer (s : State) : State := if s.cso.carStateTimer.isSome then sendCarState s else s

/-- CAR_STATE_TIMER_EXPIRY (R159). -/
def execCarStateTimerExpiry (t : Lapse) (s : State) : Answered := .next (expireCarStateTimer (s.lapse t))

end Sys2Proof.Machine
end

