-- ==== Sys2Proof/Machine/RollCall.lean ====
section
/-! DEFINITION. RCL: epochs, triggers, the roll call, formation, and the liveness of roster entries (R51 to R70).
DEDUCED: what is kept of a received frame, notes/assumptions/23.md. -/

namespace Sys2Proof.Machine

/-- The most entries a roster holds (R57). -/
def rosterCapacity : Nat := 16

/-! ## Entering an epoch (R54, R55) -/

/-- The unit number that this station's ROLL-ENTRY carries: 0 when it is unconfigured (R168). -/
def ownUnitNumber (s : State) : Nat := if s.svc.unconfigured then 0 else s.svc.config.unitNumber.getD 0

/-- This station's own roster entry on its entry into an epoch (R66). -/
def selfEntry (s : State) : RosterEntry where
  identity      := s.svc.config.identity
  side          := .self
  hop           := none
  sentFrom      := none
  ordinal       := none
  aFacesEnd0    := none
  carLength     := s.svc.config.carLength
  sensorPos     := s.svc.config.sensorPos
  refPos        := s.svc.config.refPos
  unitNumber    := ownUnitNumber s
  unconfigured  := s.svc.unconfigured
  position      := none
  trainDistance := none
  lastCarState  := none
  lastValid     := none
  invalidCount  := 0

/-- The flag byte of this station's ROLL-ENTRY out of a port (R179). -/
def ownEntryFlags (s : State) (port : End) : Byte :=
  flagByte s.svc.unconfigured ||| (flagByte (decide (port = .b)) <<< 1)

/-- This station's ROLL-ENTRY of an epoch, out of one port (R55). -/
def ownRollEntry (epoch : Epoch) (port : End) (s : State) : RollEntry where
  epoch      := epoch
  identity   := s.svc.config.identity
  flags      := ownEntryFlags s port
  carLength  := BitVec.ofNat 16 s.svc.config.carLength
  sensorPos  := BitVec.ofNat 16 s.svc.config.sensorPos
  refPos     := BitVec.ofNat 16 s.svc.config.refPos
  unitNumber := byteOf (ownUnitNumber s)

/-- The highest epoch seen takes a newer epoch (R51). -/
def noteEpoch (epoch : Epoch) (s : State) : State :=
  if isNewer epoch s.rcl.highestEpoch then { s with rcl.highestEpoch := epoch } else s

/-- The previous roster as an entry into an epoch leaves it (R55). DESIGN CHOICE: an entry set aside keeps the place of its
last formation, which no rule reads there, notes/assumptions/31.md. -/
def setAside (r : Rcl) : List RosterEntry :=
  match r.trainState with
  | .formed | .oversize | .conflict => r.roster.filter fun x => x.side ≠ .self
  | .forming => r.previousRoster
  | .none    => []

/-- RCL's own changes on entry into an epoch (R55). -/
def beginEpoch (epoch : Epoch) (s : State) : State :=
  noteEpoch epoch
    { s with
      rcl.previousRoster := setAside s.rcl
      rcl.currentEpoch   := epoch
      rcl.trainState     := .forming
      rcl.roster         := [selfEntry s]
      rcl.duplicateFlag  := false
      rcl.overflowFlag   := false
      rcl.refusedCount   := 0
      rcl.quietTimer     := some 0 }

/-- A ROLL-ENTRY is handed to LNK for one port alone (R42, R55). -/
def sendRollEntry (epoch : Epoch) (port : End) (s : State) : State :=
  offerTo port (ownFrame (.rollEntry (ownRollEntry epoch port s))) s

/-- The station enters an epoch (R55). DESIGN CHOICE: the ROLL-ENTRY of the A-END port is handed over first,
notes/assumptions/24.md. -/
def enterEpoch (epoch : Epoch) (s : State) : State :=
  sendRollEntry epoch .b (sendRollEntry epoch .a (beginEpoch epoch s))

/-- The epoch of a roll call of this station's own (R54). -/
def ownEpoch (r : Rcl) : Epoch :=
  if isNewer (r.highestEpoch + 1) r.currentEpoch then r.highestEpoch + 1 else r.currentEpoch + 1

/-- The station starts a roll call of its own: ROLL-START first, then the entry (R54). -/
def startRollCall (s : State) : State :=
  enterEpoch (ownEpoch s.rcl) (originate (.rollStart (ownEpoch s.rcl) s.svc.config.identity) s)

/-! ## Triggers (R52, R53) -/

/-- RCL takes a trigger; during START it takes none. -/
def takeTrigger (s : State) : State :=
  if s.svc.startState = .loading then s
  else if s.rcl.triggerHold.isSome then { s with rcl.pendingTrigger := true }
  else startRollCall { s with rcl.triggerHold := some 0 }

/-- The trigger hold reaches 100 ms (R53). -/
def endTriggerHold (s : State) : State :=
  if s.rcl.pendingTrigger then startRollCall { s with rcl.pendingTrigger := false, rcl.triggerHold := some 0 }
  else { s with rcl.triggerHold := none }

/-! ## ROLL-START and ROLL-ENTRY received (R56 to R58) -/

/-- The station enters an epoch on receipt of a frame: the pending trigger is cleared, the hold runs on (R53). -/
def enterOnReceipt (epoch : Epoch) (s : State) : State :=
  enterEpoch epoch { s with rcl.pendingTrigger := false }

/-- A ROLL-START is handed to RCL (R56). -/
def takeRollStart (epoch : Epoch) (s : State) : State :=
  let s' := noteEpoch epoch s
  if s.svc.startState = .done && isNewer epoch s.rcl.currentEpoch then enterOnReceipt epoch s' else s'

/-- The roster entry stored from a ROLL-ENTRY, with the liveness and health of the previous roster's entry (R57). -/
def storedEntry (arrived : End) (hop : Byte) (e : RollEntry) (previous : List RosterEntry) : RosterEntry :=
  let old := previous.find? fun x => x.identity = e.identity
  { identity      := e.identity
    side          := .port arrived
    hop           := some hop.toNat
    sentFrom      := some (if e.flags.getLsbD 1 then .b else .a)
    ordinal       := none
    aFacesEnd0    := none
    carLength     := e.carLength.toNat
    sensorPos     := e.sensorPos.toNat
    refPos        := e.refPos.toNat
    unitNumber    := e.unitNumber.toNat
    unconfigured  := e.flags.getLsbD 0
    position      := none
    trainDistance := none
    lastCarState  := old.bind RosterEntry.lastCarState
    lastValid     := old.bind RosterEntry.lastValid
    invalidCount  := (old.map RosterEntry.invalidCount).getD 0 }

/-- A ROLL-ENTRY of the current epoch in FORMING is dealt with (R57). -/
def storeRollEntry (arrived : End) (hop : Byte) (e : RollEntry) (s : State) : State :=
  let s' := { s with rcl.quietTimer := some 0 }
  if s.rcl.roster.any fun x => x.identity = e.identity then { s' with rcl.duplicateFlag := true }
  else if rosterCapacity ≤ s.rcl.roster.length then
    { s' with rcl.overflowFlag := true, rcl.refusedCount := succSat8 s.rcl.refusedCount }
  else { s' with rcl.roster := s.rcl.roster ++ [storedEntry arrived hop e s.rcl.previousRoster] }

/-- A ROLL-ENTRY is handed to RCL (R57, R58). -/
def takeRollEntry (arrived : End) (hop : Byte) (e : RollEntry) (s : State) : State :=
  let s' := noteEpoch e.epoch s
  if s.svc.startState = .loading then s'
  else if isNewer e.epoch s.rcl.currentEpoch then storeRollEntry arrived hop e (enterOnReceipt e.epoch s')
  else if e.epoch = s.rcl.currentEpoch then
    match s.rcl.trainState with
    | .forming => storeRollEntry arrived hop e s'
    | .formed  => takeTrigger s'
    | _        => s'
  else s'

/-! ## Geometry (R61 to R65) -/

/-- The entries of one side. -/
def sideEntries (roster : List RosterEntry) (e : End) : List RosterEntry := roster.filter fun x => x.side = .port e

/-- The entry with the larger hop. -/
def outer (x y : RosterEntry) : RosterEntry := if x.hop.getD 0 < y.hop.getD 0 then y else x

/-- The identity of the outermost station of a side; self's when the side has no entries (R61). -/
def outermost (own : Identity) (roster : List RosterEntry) (e : End) : Identity :=
  match sideEntries roster e with
  | []     => own
  | x :: r => (r.foldl outer x).identity

/-- The end-0 side of this station (R61). -/
def end0Side (own : Identity) (roster : List RosterEntry) : End :=
  if (outermost own roster .a).toNat ≤ (outermost own roster .b).toNat then .a else .b

/-- The ordinal of an entry, when `n` entries lie on the end-0 side (R62). -/
def ordinalOf (end0 : End) (n : Nat) (x : RosterEntry) : Nat :=
  match x.side with
  | .self   => n
  | .port e => if e = end0 then n - 1 - x.hop.getD 0 else n + 1 + x.hop.getD 0

/-- Whether an entry's A end faces end 0 (R63). -/
def facesEnd0 (end0 : End) (x : RosterEntry) : Bool :=
  match x.side with
  | .self   => decide (end0 = .a)
  | .port e => if e = end0 then decide (x.sentFrom = some .b) else decide (x.sentFrom = some .a)

/-- The ordinal and the orientation of every entry (R62, R63). -/
def withPlace (end0 : End) (n : Nat) (x : RosterEntry) : RosterEntry :=
  { x with ordinal := some (ordinalOf end0 n x), aFacesEnd0 := some (facesEnd0 end0 x) }

/-- An entry takes its place in a roster kept in the order of ordinals. -/
def insertByOrdinal (x : RosterEntry) : List RosterEntry → List RosterEntry
  | []     => [x]
  | y :: r => if x.ordinal.getD 0 ≤ y.ordinal.getD 0 then x :: y :: r else y :: insertByOrdinal x r

/-- The roster in the order of ordinals, from end 0 outward (R62). -/
def sortByOrdinal : List RosterEntry → List RosterEntry
  | []     => []
  | x :: r => insertByOrdinal x (sortByOrdinal r)

/-- The start of an entry's car: the lengths of all cars with a smaller ordinal (R64). -/
def carStart (roster : List RosterEntry) (x : RosterEntry) : Nat :=
  ((roster.filter fun y => decide (y.ordinal.getD 0 < x.ordinal.getD 0)).map RosterEntry.carLength).sum

/-- The point whose position RCL keeps: the reference point for self, the sensor for every other entry (R64). -/
def keptPoint (x : RosterEntry) : Nat := if x.side = .self then x.refPos else x.sensorPos

/-- The position of an entry's point, in mm from end 0 (R64). -/
def positionOf (roster : List RosterEntry) (x : RosterEntry) : Int :=
  if x.aFacesEnd0 = some true then (carStart roster x : Int) + keptPoint x
  else (carStart roster x : Int) + x.carLength - keptPoint x

/-- An entry with its position, and for every entry but self its train distance (R64, R65). -/
def withPosition (roster : List RosterEntry) (own : Int) (x : RosterEntry) : RosterEntry :=
  { x with
    position      := some (positionOf roster x)
    trainDistance := if x.side = .self then none else some (positionOf roster x - own) }

/-- The position of self's reference point. -/
def ownPosition (roster : List RosterEntry) : Int :=
  ((roster.find? fun x => x.side = .self).map (positionOf roster)).getD 0

/-- The roster of a formation into FORMED: placed, sorted, and measured (R60). -/
def formedRoster (own : Identity) (roster : List RosterEntry) : List RosterEntry :=
  let end0 := end0Side own roster
  let placed := sortByOrdinal (roster.map (withPlace end0 (sideEntries roster end0).length))
  placed.map (withPosition placed (ownPosition placed))

/-! ## Formation (R59, R60) -/

/-- The hops of a side run from 0 without a gap or a repeat. -/
def sideComplete (roster : List RosterEntry) (e : End) : Bool :=
  (List.range (sideEntries roster e).length).all fun k => (sideEntries roster e).any fun x => x.hop == some k

/-- The outcome of the judgement of the roster: none is an incomplete roster (R59). -/
def judgeRoster (r : Rcl) : Option TrainState :=
  if r.duplicateFlag then some .conflict
  else if r.overflowFlag || r.roster.any fun x => x.hop == some 15 then some .oversize
  else if sideComplete r.roster .a && sideComplete r.roster .b then some .formed
  else none

/-- The count of stations that ROLL-DONE gives (R60). -/
def stationCount (r : Rcl) : Nat := min 255 (r.roster.length + r.refusedCount)

/-- The neighbour of a side in a formed roster: the entry with hop 0 (R60). -/
def hopZero (roster : List RosterEntry) (e : End) : Option Identity :=
  (roster.find? fun x => decide (x.side = .port e) && x.hop == some 0).map RosterEntry.identity

/-- ROLL-DONE of the formation that RCL has just made. -/
def raiseRollDone (s : State) : State :=
  s.raise (.rollDone s.rcl.trainState s.rcl.currentEpoch (stationCount s.rcl))

/-- Formation into FORMED (R60). -/
def formTrain (s : State) : State :=
  let s' := raiseRollDone
    { s with
      rcl.previousRoster := []
      rcl.trainState     := .formed
      rcl.roster         := formedRoster s.svc.config.identity s.rcl.roster }
  takeNeighbours (hopZero s'.rcl.roster .a) (hopZero s'.rcl.roster .b) (sourceFormed s')

/-- Formation into OVERSIZE or CONFLICT (R60). -/
def formWithout (outcome : TrainState) (s : State) : State :=
  takeNeighbours none none
    (sourceNotFormed (raiseRollDone { s with rcl.previousRoster := [], rcl.trainState := outcome }))

/-- The quiet timer reaches 30 ms (R59). -/
def endQuietTimer (s : State) : State :=
  let s' := { s with rcl.quietTimer := none }
  match judgeRoster s.rcl with
  | none         => takeTrigger s'
  | some .formed => formTrain s'
  | some outcome => formWithout outcome s'

/-! ## Liveness and health (R67, R68, R70) -/

/-- A frame matches an entry: its identity, its side and its hop. -/
def matchesEntry (id : Identity) (arrived : End) (hop : Byte) (x : RosterEntry) : Bool :=
  decide (x.identity = id) && decide (x.side = .port arrived) && x.hop == some hop.toNat

/-- The entries that a frame matches are updated, the others left. -/
def updateMatching (id : Identity) (arrived : End) (hop : Byte) (f : RosterEntry → RosterEntry)
    (l : List RosterEntry) : List RosterEntry :=
  l.map fun x => if matchesEntry id arrived hop x then f x else x

/-- A CAR-STATE or TRACK-SAMPLE is applied to the roster entry it matches, and in FORMING to the entry of the previous
roster it matches (R67, R68). DESIGN CHOICE, unsafe: the previous roster's entry is matched by its own side and hop,
notes/assumptions/27.md. -/
def applyToRosters (id : Identity) (arrived : End) (hop : Byte) (f : RosterEntry → RosterEntry) (s : State) : State :=
  let s' := { s with rcl.roster := updateMatching id arrived hop f s.rcl.roster }
  if s.rcl.trainState = .forming then
    { s' with rcl.previousRoster := updateMatching id arrived hop f s.rcl.previousRoster }
  else s'

/-- A frame matches an entry that RCL applies it to. -/
def isApplied (id : Identity) (arrived : End) (hop : Byte) (r : Rcl) : Bool :=
  r.roster.any (matchesEntry id arrived hop)
    || (decide (r.trainState = .forming) && r.previousRoster.any (matchesEntry id arrived hop))

/-- A CAR-STATE or TRACK-SAMPLE is handed to RCL: applied, and judged by SRC (R76); or in FORMED an inconsistency (R70);
or without effect. -/
def takeLiveness (id : Identity) (arrived : End) (hop : Byte) (f : RosterEntry → RosterEntry) (s : State) : State :=
  if isApplied id arrived hop s.rcl then judgeAtFrame (applyToRosters id arrived hop f s)
  else if s.rcl.trainState = .formed then takeTrigger s
  else s

/-- What a matching CAR-STATE does to an entry (R67). -/
def applyCarState (now : Nat) (c : CarStateFrame) (x : RosterEntry) : RosterEntry :=
  { x with lastCarState := some { time := now, mode := c.mode, theta := c.theta.toInt, flags := c.flags &&& 7 } }

/-- What a matching TRACK-SAMPLE does to an entry (R68). -/
def applySample (now : Nat) (t : TrackSample) (x : RosterEntry) : RosterEntry :=
  if t.valid then { x with lastValid := some now, invalidCount := 0 }
  else { x with invalidCount := min 3 (x.invalidCount + 1) }

end Sys2Proof.Machine
end

