-- ==== Sys2Proof/Machine/Line.lean ====
section
/-! DEFINITION. The receive side of LNK: the line states of a port, the receiver, and the acceptance of frames (R33 to
R41). DEDUCED, safe: a receiver in HUNTING completes no frame, notes/assumptions/10.md; an expiry is the sender's
word, 8.md. -/

namespace Sys2Proof.Machine

/-! ## The line states (R34 to R37) -/

/-- A DOWN port goes to SETTLING at the first change of level (R34). -/
def settlePort (p : Port) : Port :=
  { p with line := .settling, settleTime := 0, clearFillTime := 0, flagTime := 0 }

/-- The values of a port on its entry to UP (R35). -/
def upPort (p : Port) : Port :=
  { p with
    line       := .up
    farEnd     := false
    markerTime := 0
    flagTime   := 0
    receiver   := .hunting
    notices    := []
    streams    := []
    sending    := none }

/-- Both queues are emptied without being counted, and the frame being sent is abandoned (R33, R37). -/
def flushPort (p : Port) : Port := { p with notices := [], streams := [], sending := none }

/-- A loss of signal (R34). -/
def lostPort (p : Port) : Port :=
  { p with
    line          := .down
    settleTime    := 0
    markerTime    := 0
    clearFillTime := 0
    flagTime      := 0
    receiver      := .hunting }

/-- The marker has been received for 1 ms in UP (R36). -/
def markedPort (p : Port) : Port :=
  { flushPort p with line := .down, farEnd := true, markerTime := ms 1, receiver := .hunting }

/-- PORT-CHANGE is raised, and the change handed to RCL as a trigger (R37). -/
def reportChange (e : End) (up : Bool) (cause : PortCause) (s : State) : State :=
  takeTrigger (s.raise (.portChange e up cause))

/-- A port goes UP (R35, R37). -/
def goUp (e : End) (cause : PortCause) (s : State) : State :=
  reportChange e true cause (s.setPort e (upPort (s.port e)))

/-- The settle time reaches 10 ms: in SETTLING with the far-end flag clear the port goes UP (R35). -/
def settleExpires (e : End) (s : State) : State :=
  if (s.port e).line = .settling then
    let s' := s.setPort e { s.port e with settleTime := ms 10 }
    if (s.port e).farEnd then s' else goUp e .settled s'
  else s

/-- 500 µs of plain fill in SETTLING take the port UP (R35). -/
def farEndUp (e : End) (s : State) : State :=
  if (s.port e).line = .settling then goUp e .farEndUp (s.setPort e { s.port e with clearFillTime := 500 }) else s

/-- The flag time reaches 10 s: the flag is cleared, and a port that has settled goes UP (R35). -/
def flagExpires (e : End) (s : State) : State :=
  if (s.port e).line = .settling && (s.port e).farEnd then
    let s' := s.setPort e { s.port e with farEnd := false, flagTime := 0 }
    if ms 10 ≤ (s.port e).settleTime then goUp e .settled s' else s'
  else s

/-- A port loses signal (R34, R37). -/
def loseSignal (e : End) (s : State) : State :=
  match (s.port e).line with
  | .down     => s
  | .settling => s.setPort e (lostPort (s.port e))
  | .up       => reportChange e false .signalLoss (s.setPort e (flushPort (lostPort (s.port e))))

/-- The marker time reaches 1 ms in UP (R36, R37). -/
def markerExpires (e : End) (s : State) : State :=
  if (s.port e).line = .up then reportChange e false .farEndFail (s.setPort e (markedPort (s.port e))) else s

/-! ## The receiver (R38, R39) -/

/-- A data byte received in UP sets the marker time back to 0 (R36). -/
def heardByte (p : Port) : Port := if p.line = .up then { p with markerTime := 0 } else p

/-- A fill symbol sets the marker time or the clear-fill time back, according to its form (R35, R36). -/
def heardFill (f : Fill) (p : Port) : Port :=
  match p.line, f with
  | .up,       .plain  => { p with markerTime := 0 }
  | .settling, .marked => { p with clearFillTime := 0 }
  | _, _               => p

/-- A receiver in HUNTING finds a start pattern, and the line state at that moment is noted (R38, R40). -/
def findPattern (e : End) (s : State) : State :=
  match (s.port e).receiver with
  | .hunting   => s.setPort e { heardByte (s.port e) with receiver := .inFrame (s.port e).line }
  | .inFrame _ => s

/-- The receiver goes to HUNTING. -/
def hunt (p : Port) : Port := { p with receiver := .hunting }

/-- A fill symbol cuts a frame short: it is counted and discarded (R38). -/
def truncateFrame (e : End) (f : Fill) (s : State) : State :=
  let p := heardFill f (s.port e)
  match p.receiver with
  | .hunting   => s.setPort e p
  | .inFrame _ => s.setPort e (hunt { p with counters.truncated := addSat16 p.counters.truncated 1 })

/-- A format error: it is counted, and the frame discarded (R39). -/
def formatError (e : End) (s : State) : State :=
  let p := heardByte (s.port e)
  match p.receiver with
  | .hunting   => s.setPort e p
  | .inFrame _ => s.setPort e (hunt { p with counters.formatErrors := addSat16 p.counters.formatErrors 1 })

/-! ## Acceptance (R40) -/

/-- An accepted frame, its age raised, is handed to the units that use its kind; PVQ takes a sample before or after RCL
and SRC (R86). -/
def handFrame (e : End) (f : LinkFrame) (queueFirst : Bool) (s : State) : State :=
  match f.body with
  | .rollStart epoch _ => takeRollStart epoch s
  | .rollEntry entry   => takeRollEntry e f.hop entry s
  | .trackSample t =>
    if queueFirst then takeLiveness t.source e f.hop (applySample s.now t) (takeSample t f.age.toNat s)
    else takeSample t f.age.toNat (takeLiveness t.source e f.hop (applySample s.now t) s)
  | .carState c => reportNeighbour e f.hop c (takeLiveness c.identity e f.hop (applyCarState s.now c) s)
  | .tiltOrder o => takeOrder o s

/-- A frame is accepted: counted, aged, handed on and offered, in the given order (R40). DESIGN CHOICE: the offered frame
joins before or after all own frames of its acceptance, never between two of them, notes/assumptions/26.md. -/
def acceptFrame (e : End) (frame : LinkFrame) (offerFirst queueFirst : Bool) (s : State) : State :=
  let s' := s.setPort e { s.port e with counters.accepted := addSat16 (s.port e).counters.accepted 1 }
  if offerFirst then handFrame e (acceptedFrame frame) queueFirst (forward e (acceptedFrame frame) s')
  else forward e (acceptedFrame frame) (handFrame e (acceptedFrame frame) queueFirst s')

/-- The last check byte of a frame arrives (R39, R40). -/
def receiveFrame (e : End) (frame : LinkFrame) (check : Check) (offerFirst queueFirst : Bool) (s : State) : State :=
  match (s.port e).receiver with
  | .hunting => s
  | .inFrame lineAtPattern =>
    let p := hunt (heardByte (s.port e))
    if check ≠ checkOf (frameCovered frame) then
      s.setPort e { p with counters.checkFailures := addSat16 p.counters.checkFailures 1 }
    else if lineAtPattern = .up && decide (p.line = .up) then
      acceptFrame e frame offerFirst queueFirst (s.setPort e p)
    else s.setPort e p

/-- The transmitter ends a frame and chooses the next (R44). -/
def endFrame (e : End) (s : State) : State :=
  if (s.port e).sending.isSome then s.setPort e (chooseNext s.now (s.port e)) else s

end Sys2Proof.Machine
end

