-- ==== Sys2Proof/Machine/LinkFamily.lean ====
section
/-! DEFINITION. The meanings of the commands of the tilt link: line states, receiver, acceptance and transmitter. -/

namespace Sys2Proof.Machine

/-- A DOWN port hears signal (R34). -/
def detectSignal (e : End) (s : State) : State :=
  if (s.port e).line = .down then s.setPort e (settlePort (s.port e)) else s

/-- LINE_SIGNAL_DETECTED (R34). -/
def execLineSignalDetected (t : Lapse) (port : End) (s : State) : Answered := .next (detectSignal port (s.lapse t))

/-- SIGNAL_LOSS (R34, R37). -/
def execSignalLoss (t : Lapse) (port : End) (s : State) : Answered := .next (loseSignal port (s.lapse t))

/-- SETTLE_TIME_EXPIRY (R35, R37). -/
def execSettleTimeExpiry (t : Lapse) (port : End) (s : State) : Answered := .next (settleExpires port (s.lapse t))

/-- FAR_END_UP (R35, R37). -/
def execFarEndUp (t : Lapse) (port : End) (s : State) : Answered := .next (farEndUp port (s.lapse t))

/-- FLAG_TIME_EXPIRY (R35, R37). -/
def execFlagTimeExpiry (t : Lapse) (port : End) (s : State) : Answered := .next (flagExpires port (s.lapse t))

/-- MARKER_TIME_EXPIRY (R36, R37). -/
def execMarkerTimeExpiry (t : Lapse) (port : End) (s : State) : Answered := .next (markerExpires port (s.lapse t))

/-- FRAME_TRUNCATED (R38). -/
def execFrameTruncated (t : Lapse) (port : End) (fill : Fill) (s : State) : Answered :=
  .next (truncateFrame port fill (s.lapse t))

/-- FRAME_FORMAT_ERROR (R39). -/
def execFrameFormatError (t : Lapse) (port : End) (error : FormatError) (s : State) : Answered :=
  whenWf error.wf (formatError port (s.lapse t))

/-- LINK_FRAME_RECEIVED (R39 to R41). -/
def execLinkFrameReceived (t : Lapse) (port : End) (frame : LinkFrame) (check : Check) (offerFirst queueFirst : Bool)
    (s : State) : Answered :=
  whenWf frame.wf (receiveFrame port frame check offerFirst queueFirst (s.lapse t))

/-- TRANSMIT_COMPLETE (R44). -/
def execTransmitComplete (t : Lapse) (port : End) (s : State) : Answered := .next (endFrame port (s.lapse t))

/-- START_PATTERN_FOUND (R38). -/
def execStartPatternFound (t : Lapse) (port : End) (s : State) : Answered := .next (findPattern port (s.lapse t))

end Sys2Proof.Machine
end

