-- ==== Sys2Proof/Machine/PulseFamily.lean ====
section
/-! DEFINITION. The meanings of TACHOMETER_PULSE and CAPTURE_COUNTER_WRAP. -/

namespace Sys2Proof.Machine

/-- TACHOMETER_PULSE (R1, R4, R6 to R10, R26 to R29). -/
def execTachometerPulse (t : Lapse) (t2Before t2Now crossCheckFirst : Bool) (s : State) : Answered :=
  .next (tachometerPulse (pulseSense (t2AtEdge t2Before t2Now)) crossCheckFirst (s.lapse t))

/-- CAPTURE_COUNTER_WRAP (R11). -/
def execCaptureCounterWrap (t : Lapse) (s : State) : Answered :=
  let s' := s.lapse t
  .next { s' with odo := takeWrap s'.odo }

end Sys2Proof.Machine
end

