-- ==== Sys2Proof/Machine/RollCallFamily.lean ====
section
/-! DEFINITION. The meanings of TRIGGER_HOLD_EXPIRY and QUIET_TIMER_EXPIRY. -/

namespace Sys2Proof.Machine

/-- A trigger hold that is stopped does not expire. -/
def expireTriggerHold (s : State) : State := if s.rcl.triggerHold.isSome then endTriggerHold s else s

/-- TRIGGER_HOLD_EXPIRY (R53). -/
def execTriggerHoldExpiry (t : Lapse) (s : State) : Answered := .next (expireTriggerHold (s.lapse t))

/-- A quiet timer that is stopped does not expire. -/
def expireQuietTimer (s : State) : State := if s.rcl.quietTimer.isSome then endQuietTimer s else s

/-- QUIET_TIMER_EXPIRY (R59). -/
def execQuietTimerExpiry (t : Lapse) (s : State) : Answered := .next (expireQuietTimer (s.lapse t))

end Sys2Proof.Machine
end

