-- ==== Sys2Proof/Machine/SensorFamily.lean ====
section
/-! DEFINITION. The meanings of POLL_EXPIRY, BOGIE_FRAME, BODY_ANGLE_FRAME and SENSOR_REPLY_TIMEOUT. DEDUCED: a
POLL_EXPIRY begins the poll anew, notes/assumptions/21.md. -/

namespace Sys2Proof.Machine

/-- The poll: ODO's evaluation, TSU's judgement, then the request to the bogie unit (R16). -/
def pollSensors (s : State) : State :=
  sendSensorRequest .bogie (samplePoll { s with odo := evaluateSpeed s.odo })

/-- POLL_EXPIRY (R16). -/
def execPollExpiry (t : Lapse) (s : State) : Answered := .next (pollSensors (s.lapse t))

/-- A reply in the bogie exchange is judged; outside it what arrives is ignored (R16, R17). -/
def receiveBogieReply (reply : SensorReply) (s : State) : State :=
  if awaited s.sns.wait = some .bogie then endBogieExchange (judgeReply .bogie reply) s else s

/-- BOGIE_FRAME (R17). -/
def execBogieFrame (t : Lapse) (reply : SensorReply) (s : State) : Answered :=
  .next (receiveBogieReply reply (s.lapse t))

/-- A reply in the body-angle exchange is judged; outside it what arrives is ignored (R16, R18). -/
def receiveBodyReply (reply : SensorReply) (s : State) : State :=
  if awaited s.sns.wait = some .body then endBodyExchange (judgeBodyReply reply) s else s

/-- BODY_ANGLE_FRAME (R18). -/
def execBodyAngleFrame (t : Lapse) (reply : SensorReply) (s : State) : Answered :=
  .next (receiveBodyReply reply (s.lapse t))

/-- The wait for a reply ends without one: the frame of the exchange in progress is bad as no reply (R16). -/
def endWait (s : State) : State :=
  match awaited s.sns.wait with
  | some .bogie => endBogieExchange .noReply s
  | some .body  => endBodyExchange .noReply s
  | none        => s

/-- SENSOR_REPLY_TIMEOUT (R16). -/
def execSensorReplyTimeout (t : Lapse) (s : State) : Answered := .next (endWait (s.lapse t))

end Sys2Proof.Machine
end

