-- ==== Sys2Proof/Machine/Answers.lean ====
section
/-! DEFINITION. The data of the DONE answers of the service line, each field encoded as R178 gives (R171, R180).
DESIGN CHOICE, unsafe for statements about the bytes: the widths and layouts of notes/assumptions/13.md and 14.md, the
order among ports, slots and slot counts of 28.md, the flag values of line levels of 29.md, and the enumerations with a
code for none of 32.md. -/

namespace Sys2Proof.Machine

/-- A field that may be none: a presence byte, then the field's bytes, which are 0 when it is none (R178). -/
def optional (width : Nat) : Option (List Byte) → List Byte
  | some bytes => 1 :: bytes
  | none       => 0 :: List.replicate width 0

/-- A time of acceptance: the ms elapsed since it, saturating at 65,534, with 65,535 for none (R178). -/
def elapsedBytes (now : Nat) : Option Nat → List Byte
  | some time => nat16 (min 65534 ((now - time) / 1000))
  | none      => nat16 65535

/-- The identity bound in a slot, 0 for an empty slot, among the fields of an answer. -/
def boundBytes (b : Option Source) : List Byte :=
  bytes32 (match b with
    | some x => x.identity
    | none   => 0)

/-! ## READ-STATUS -/

/-- A port's line state and far-end flag. DESIGN CHOICE: the two stand together, notes/assumptions/28.md. -/
def portStatus (p : Port) : List Byte := [lineStateCode p.line, flagByte p.farEnd]

/-- The snapshot, in the order in which R171 lists its fields. DESIGN CHOICE: the A-END port comes before the B-END port,
notes/assumptions/28.md; enable on, INHIBIT active and SUPPLY-OK high are flag value 1, notes/assumptions/29.md; the failure
cause has a code for none and takes no presence byte, notes/assumptions/32.md. -/
def statusData (s : State) : List Byte :=
  bytes32 s.svc.config.identity ++ bytes64 s.svc.factorySerial
    ++ [flagByte s.svc.unconfigured, flagByte s.svc.clamped]
    ++ optional 1 (s.svc.loadFault.map fun f => [loadFaultCode f])
    ++ [modeCode s.dmd.mode] ++ optional 1 (s.dmd.lastCause.map fun c => [modeCauseCode c])
    ++ [flagByte s.act.failedLatch, failureCauseCode s.act.failureCause, flagByte s.act.enable]
    ++ int16 s.act.duty
    ++ nat32 s.odo.speed ++ bytes32 s.odo.odometer ++ [directionCode s.odo.direction]
    ++ int16 s.dmd.command ++ int16 s.sns.lastBody ++ int16 s.sns.lastBogie
    ++ [flagByte s.sns.bogieHealth.fault, flagByte s.sns.bodyHealth.fault]
    ++ [trainStateCode s.rcl.trainState, flagByte s.src.headFlag] ++ boundBytes s.src.slotP
    ++ [flagByte s.xck.splitLatch]
    ++ portStatus s.portA ++ portStatus s.portB
    ++ [flagByte s.cso.inhibit, flagByte s.act.supplyOk, flagByte s.dmd.localInhibit, flagByte s.cso.orderInhibit]
    ++ [startStateCode s.svc.startState]

/-! ## READ-ROSTER (R71) -/

/-- The last CAR-STATE of an entry: its time, then mode, θ and fault flags, 0 where there is none. -/
def carReportBytes (now : Nat) (c : Option CarReport) : List Byte :=
  elapsedBytes now (c.map CarReport.time) ++
    match c with
    | some r => [r.mode] ++ int16 r.theta ++ [r.flags]
    | none   => List.replicate 4 0

/-- The fields of an entry, in the order of R66. DESIGN CHOICE: A end faces end 0 is a single flag, yes 1 and no 0,
notes/assumptions/14.md. -/
def entryBytes (now : Nat) (x : RosterEntry) : List Byte :=
  bytes32 x.identity ++ [sideCode x.side]
    ++ optional 1 (x.hop.map fun n => [byteOf n])
    ++ optional 1 (x.sentFrom.map fun e => [endCode e])
    ++ optional 1 (x.ordinal.map fun n => [byteOf n])
    ++ optional 1 (x.aFacesEnd0.map fun b => [flagByte b])
    ++ nat16 x.carLength ++ nat16 x.sensorPos ++ nat16 x.refPos
    ++ [byteOf x.unitNumber, flagByte x.unconfigured]
    ++ optional 4 (x.position.map int32) ++ optional 4 (x.trainDistance.map int32)
    ++ carReportBytes now x.lastCarState ++ elapsedBytes now x.lastValid ++ [byteOf x.invalidCount]

/-- How many bytes the fields of an entry take. -/
def entryWidth : Nat := 40

/-- Epoch, train state, number of entries, and the entry at an index. -/
def rosterData (index : Nat) (s : State) : List Byte :=
  [s.rcl.currentEpoch, trainStateCode s.rcl.trainState, byteOf s.rcl.roster.length]
    ++ optional entryWidth (s.rcl.roster[index]?.map (entryBytes s.now))

/-! ## READ-SLOTS (R90, R110, R121) -/

/-- The figures of one slot: identity, offset in use, number of entries, head due, tail due. -/
def slotData (b : Option Source) (q : List PreviewEntry) : List Byte :=
  boundBytes b ++ optional 4 (b.map fun x => int32 x.offset) ++ nat16 q.length
    ++ optional 4 (q.head?.map fun e => bytes32 e.due) ++ optional 4 (q.getLast?.map fun e => bytes32 e.due)

/-- The value of a COVERED lookup as a field. -/
def lookupValue (l : Option Lookup) : List Byte :=
  match l with
  | some (.covered a) => optional 2 (some (int16 a))
  | _                 => optional 2 none

/-- The two slots, the ranks, the last lookup and the split counter. DESIGN CHOICE: the last lookup has a code for none and
takes no presence byte, notes/assumptions/32.md. -/
def slotsData (s : State) : List Byte :=
  slotData s.src.slotP s.pvq.queueP ++ slotData s.src.slotS s.pvq.queueS
    ++ boundBytes s.src.ranking.head? ++ boundBytes s.src.ranking.tail.head?
    ++ [lookupCode s.pvq.lastLookup] ++ lookupValue s.pvq.lastLookup ++ [byteOf s.xck.splitCounter]

/-! ## READ-COUNTERS -/

/-- A sensor unit's bad-frame counts in the order of R19. -/
def badFrameList (c : BadFrameCounts) : List Nat := [c.noReply, c.checkFailure, c.wrongAddress, c.faultStatus]

/-- A port's counters in the order of R47. -/
def portCounterList (c : PortCounters) : List Nat :=
  [c.accepted, c.truncated, c.formatErrors, c.checkFailures, c.noticeDrops, c.streamDrops, c.staleDrops]

/-- A slot's three counts. DESIGN CHOICE: in the order in which R109 names them, notes/assumptions/28.md. -/
def slotCountList (c : SlotCounts) : List Nat := [c.outOfOrder, c.gap, c.headDrop]

/-- All counters, in the order in which R171 lists them. DESIGN CHOICE: all seven counters of A-END come before those of
B-END (R47), and all three counts of P before those of S (R109), notes/assumptions/28.md; the sensor counters,
notes/assumptions/14.md. -/
def counterList (s : State) : List Nat :=
  badFrameList s.sns.counters.bogie ++ badFrameList s.sns.counters.body
    ++ [s.sns.counters.bodyOutOfRange, s.sns.counters.bogieClamped]
    ++ portCounterList s.portA.counters ++ portCounterList s.portB.counters
    ++ slotCountList s.pvq.countsP ++ slotCountList s.pvq.countsS
    ++ [s.xck.agreed, s.xck.disagreed, s.xck.unmatched, s.xck.latchSettings] ++ [s.svc.malformed]

/-- The counters as 2-byte fields. -/
def countersData (s : State) : List Byte := (counterList s).flatMap nat16

/-! ## FETCH-EVENT (R173) -/

/-- The fields of an event's detail, in the order of the rule that raises it. DESIGN CHOICE: the mark REPEAT is 1, and the
level of INHIBIT stands before that of SUPPLY-OK, notes/assumptions/13.md; INHIBIT active and SUPPLY-OK high are flag
value 1, notes/assumptions/29.md. -/
def detailFields : Detail → List Byte
  | .actuatorFault cause repeated => [failureCauseCode (some cause), flagByte repeated]
  | .sensorFault unit change => [unitCode unit, changeCode change]
  | .configFault load => [failureCauseCode (some .config), loadFaultCode load]
  | .modeChange before after cause => [modeCode before, modeCode after, modeCauseCode cause]
  | .split change cause counter p s => [changeCode change, splitCauseCode cause, byteOf counter] ++ bytes32 p ++ bytes32 s
  | .sourceChange cause pBefore pAfter sAfter =>
    [sourceCauseCode cause] ++ bytes32 pBefore ++ bytes32 pAfter ++ bytes32 sAfter
  | .rollDone state epoch count => [trainStateCode state, epoch, byteOf count]
  | .portChange port up cause => [endCode port, lineStateCode (if up then .up else .down), portCauseCode cause]
  | .conditionChange line inhibit supplyOk => [conditionLineCode line, flagByte inhibit, flagByte supplyOk]
  | .orderReceived origin target action => bytes32 origin ++ [byteOf target, actionCode action]
  | .queueLoss place => lossBytes place

/-- Sixteen bytes of detail: the fields, then zero bytes. -/
def detailBytes : Option Detail → List Byte
  | none   => List.replicate 16 0
  | some d => detailFields d ++ List.replicate (16 - (detailFields d).length) 0

/-- The data of a fetch: kind, count and detail. -/
def eventData (kind : EventKind) (r : EventRecord) : List Byte := [kindCode kind, byteOf r.count] ++ detailBytes r.detail

/-- The data of a fetch when no kind is pending: the kind NONE (R173). DESIGN CHOICE: with a count of 0 and sixteen zero
bytes of detail, notes/assumptions/13.md. -/
def noEventData : List Byte := [0, 0] ++ detailBytes none

end Sys2Proof.Machine
end

