-- ==== Sys2Proof/Machine/Service.lean ====
section
/-! DEFINITION. SVC: the end of a load and of START, the requests of the service line, and RESTART (R167 to R175).
DESIGN CHOICE: the answer stands whole in the state, notes/assumptions/11.md; DEDUCED: the times of the load, 12.md,
and the copies that units keep, 18.md. -/

namespace Sys2Proof.Machine

/-! ## The load (R167, R168) -/

/-- How a load ends: the record that comes into use, its fault, and whether a field of it was clamped. -/
structure LoadOutcome where
  config  : ConfigRecord
  fault   : Option LoadFault
  clamped : Bool
deriving DecidableEq, Repr

/-- A load that fails: the default record comes into use (R168). -/
def failedLoad (serial : BitVec 64) (fault : LoadFault) : LoadOutcome where
  config  := defaultRecord serial
  fault   := some fault
  clamped := false

/-- A record read complete is judged and clamped (R168, R169). -/
def readOutcome (serial : BitVec 64) (r : RecordBytes) : LoadOutcome :=
  match judgeRecord r with
  | some fault => failedLoad serial fault
  | none =>
    { config  := clampRecord (recordAsRead r)
      fault   := none
      clamped := decide (clampRecord (recordAsRead r) ≠ recordAsRead r) }

/-- SVC keeps the record and the outcome, and hands them to the units that take fields of them (R167). -/
def handRecord (o : LoadOutcome) (s : State) : State :=
  takeLoadOutcome o.fault
    { s with
      svc.config       := o.config
      svc.unconfigured := o.fault.isSome
      svc.clamped      := o.clamped
      svc.loadFault    := o.fault
      odo              := takePulseLength (recordPulseLength o.config) s.odo
      xck.threshold    := o.config.threshold
      act.loopGain     := o.config.loopGain
      cso.unitInUse    := o.config.unitNumber }

/-- START ends: RCL takes its trigger and CSO builds its first CAR-STATE, in the given order (R167). -/
def endStart (carStateFirst : Bool) (s : State) : State :=
  let s' := { s with svc.startState := .done }
  if carStateFirst then takeTrigger (sendCarState s') else sendCarState (takeTrigger s')

/-- A load ends, and START with it. -/
def endLoad (o : LoadOutcome) (carStateFirst : Bool) (s : State) : State := endStart carStateFirst (handRecord o s)

/-- A load begins (R167). -/
def beginLoad (s : State) : State := { s with svc.startState := .loading, svc.loadTime := 0, svc.tryTime := 0 }

/-! ## Answers (R170) -/

/-- SVC answers a request. -/
def answer (code : Byte) (payload : List Byte) (s : State) : State := { s with svc.answer := answerBytes code payload }

/-- DONE, with its data. -/
def answerDone (code : Byte) (data : List Byte) (s : State) : State := answer code (0 :: data) s

/-- REFUSED, with its reason. -/
def answerRefused (code : Byte) (reason : RefusalReason) (s : State) : State := answer code [1, refusalCode reason] s

/-- MALFORMED, which is counted. -/
def answerMalformed (code : Byte) (s : State) : State :=
  answer code [2] { s with svc.malformed := addSat16 s.svc.malformed 1 }

/-- A request with an empty payload is carried out; any other payload makes it MALFORMED (R170). -/
def whenEmpty (code : Byte) (payload : List Byte) (f : State → State) (s : State) : State :=
  if payload.isEmpty then f s else answerMalformed code s

/-! ## The requests (R171) -/

/-- READ-STATUS. -/
def requestStatus (payload : List Byte) (s : State) : State :=
  whenEmpty 1 payload (fun s => answerDone 1 (statusData s) s) s

/-- READ-ROSTER. -/
def requestRoster (payload : List Byte) (s : State) : State :=
  match payload with
  | [index] => if index.toNat ≤ 15 then answerDone 2 (rosterData index.toNat s) s else answerMalformed 2 s
  | _       => answerMalformed 2 s

/-- READ-SLOTS. -/
def requestSlots (payload : List Byte) (s : State) : State :=
  whenEmpty 3 payload (fun s => answerDone 3 (slotsData s) s) s

/-- READ-COUNTERS. -/
def requestCounters (payload : List Byte) (s : State) : State :=
  whenEmpty 4 payload (fun s => answerDone 4 (countersData s) s) s

/-- The highest pending kind (R173). -/
def highestPending (es : EventSet) : Option EventKind := kindsByPriority.find? fun k => (es.record k).pending

/-- The record of a kind is cleared; after CONDITION-CHANGE the latches are judged again (R173, R174). -/
def clearFetched (kind : EventKind) (s : State) : State :=
  let s' := { s with svc.events := s.svc.events.setRecord kind recordClear }
  if kind = .conditionChange then rejudgeConditions s' else s'

/-- An event is fetched (R173). -/
def fetchEvent (s : State) : State :=
  match highestPending s.svc.events with
  | none      => answerDone 5 noEventData s
  | some kind => answerDone 5 (eventData kind (s.svc.events.record kind)) (clearFetched kind s)

/-- FETCH-EVENT. -/
def requestEvent (payload : List Byte) (s : State) : State := whenEmpty 5 payload fetchEvent s

/-- SET-LOCAL-INHIBIT. -/
def requestLocalInhibit (payload : List Byte) (s : State) : State :=
  match payload with
  | [value] =>
    if value.toNat ≤ 1 then answerDone 6 [] { s with dmd.localInhibit := decide (value = 1) } else answerMalformed 6 s
  | _ => answerMalformed 6 s

/-- SEND-ORDER. -/
def requestOrder (payload : List Byte) (s : State) : State :=
  match payload with
  | [target, code] =>
    match actionOf code with
    | none => answerMalformed 7 s
    | some action =>
      if 15 < target.toNat then answerMalformed 7 s
      else if s.svc.startState = .loading then answerRefused 7 .start s
      else answerDone 7 [] (sendTiltOrder target action s)
  | _ => answerMalformed 7 s

/-- RESET-FAILED, well formed. -/
def resetFailed (s : State) : State :=
  if s.svc.startState = .loading then answerRefused 8 .start s
  else
    match resetFailedRefusal s with
    | some reason => answerRefused 8 reason s
    | none        => answerDone 8 [] (if s.act.failedLatch then clearFailed s else s)

/-- RESET-FAILED. -/
def requestResetFailed (payload : List Byte) (s : State) : State := whenEmpty 8 payload resetFailed s

/-! ## RESTART (R175) -/

/-- The first condition of RESTART that fails. -/
def restartRefusal (s : State) : Option RefusalReason :=
  if s.svc.startState = .loading then some .start
  else if s.odo.speed ≠ 0 then some .notStanding
  else if s.dmd.command ≠ 0 then some .command
  else none

/-- ODO, SNS and TSU at RESTART (R15, R32). DESIGN CHOICE: the interval start, which R32 does not name, is kept,
notes/assumptions/25.md. -/
def restartSensing (s : State) : State :=
  { s with
    odo               := voidMeasurement s.odo
    sns.bogieHealth   := healthClear
    sns.bodyHealth    := healthClear
    sns.window        := []
    sns.counters      := sensorCountersZero
    tsu.sampling      := .idle
    tsu.intervalSum   := 0
    tsu.intervalCount := 0
    tsu.sequence      := 0 }

/-- RCL at RESTART: the epochs are kept (R73). -/
def restartRollCall (s : State) : State :=
  { s with
    rcl := { rclPowerOn with currentEpoch := s.rcl.currentEpoch, highestEpoch := s.rcl.highestEpoch } }

/-- SRC, PVQ and XCK at RESTART (R91, R112, R123). -/
def restartPreview (s : State) : State :=
  { s with src := srcPowerOn, pvq := pvqPowerOn, xck := xckWithThreshold s.xck.threshold }

/-- DMD, ACT and CSO at RESTART: the command stands at 0 already (R146, R158, R166). -/
def restartControl (s : State) : State :=
  disableDrive
    { s with
      dmd               := { dmdPowerOn with command := s.dmd.command }
      cso.carStateTimer := none
      cso.neighbourA    := noNeighbour
      cso.neighbourB    := noNeighbour
      cso.orderInhibit  := false }

/-- SVC at RESTART, before its load begins (R175). -/
def restartService (s : State) : State :=
  { s with
    svc.events       := eventsClear
    svc.inhibitLatch := latchAt s.cso.inhibit
    svc.supplyLatch  := latchAt s.act.supplyOk
    svc.malformed    := 0 }

/-- Every unit takes its RESTART values, and a load begins. -/
def restartUnits (s : State) : State :=
  beginLoad (restartService (restartControl (restartPreview (restartRollCall (restartSensing s)))))

/-- RESTART, well formed. -/
def restart (s : State) : State :=
  match restartRefusal s with
  | some reason => answerRefused 9 reason s
  | none        => answerDone 9 [] (restartUnits s)

/-- RESTART. -/
def requestRestart (payload : List Byte) (s : State) : State := whenEmpty 9 payload restart s

end Sys2Proof.Machine
end

