-- ==== Sys2Proof/Machine/ServiceFamily.lean ====
section
/-! DEFINITION. The meanings of the commands of the configuration load and of the service line, and of POWER_ON. -/

namespace Sys2Proof.Machine

/-- POWER_ON (R176): every unit takes its power-on values; the factory serial is fixed in the part, and the commands that
wait are the sender's. -/
def execPowerOn (inhibitActive supplyHigh : Bool) (s : State) : Answered :=
  .next (State.powerOn s.svc.factorySerial inhibitActive supplyHigh s.pending)

/-- A read ends the load in progress (R167, R168). -/
def completeRead (record : RecordBytes) (carStateFirst : Bool) (s : State) : State :=
  match s.svc.startState with
  | .loading => endLoad (readOutcome s.svc.factorySerial record) carStateFirst s
  | .done    => s

/-- CONFIG_READ_COMPLETE (R167, R168). -/
def execConfigReadComplete (t : Lapse) (record : RecordBytes) (carStateFirst : Bool) (s : State) : Answered :=
  .next (completeRead record carStateFirst (s.lapse t))

/-- The read is tried again in a load in progress (R167). -/
def retryRead (s : State) : State :=
  match s.svc.startState with
  | .loading => { s with svc.tryTime := 0 }
  | .done    => s

/-- CONFIG_LOAD_RETRY (R167). -/
def execConfigLoadRetry (t : Lapse) (s : State) : Answered := .next (retryRead (s.lapse t))

/-- The load in progress ends with the fault NO-ANSWER (R167). -/
def abandonLoad (carStateFirst : Bool) (s : State) : State :=
  match s.svc.startState with
  | .loading => endLoad (failedLoad s.svc.factorySerial .noAnswer) carStateFirst s
  | .done    => s

/-- CONFIG_LOAD_TIMEOUT (R167). -/
def execConfigLoadTimeout (t : Lapse) (carStateFirst : Bool) (s : State) : Answered :=
  .next (abandonLoad carStateFirst (s.lapse t))

/-- REQUEST_GAP_TIMEOUT: the incomplete request is discarded with no answer, and not counted (R170). -/
def execRequestGapTimeout (t : Lapse) (s : State) : Answered := .next (s.lapse t)

/-- UNKNOWN_REQUEST (R170): answered MALFORMED with the request's code as received, and counted. -/
def execUnknownRequest (t : Lapse) (code : Byte) (payload : List Byte) (check : Check) (s : State) : Answered :=
  whenWf (payloadWf payload && isUnknownRequest code payload check) (answerMalformed code (s.lapse t))

/-- READ_STATUS (R171). -/
def execReadStatus (t : Lapse) (payload : List Byte) (s : State) : Answered :=
  whenWf (payloadWf payload) (requestStatus payload (s.lapse t))

/-- READ_ROSTER (R71). -/
def execReadRoster (t : Lapse) (payload : List Byte) (s : State) : Answered :=
  whenWf (payloadWf payload) (requestRoster payload (s.lapse t))

/-- READ_SLOTS (R90, R110). -/
def execReadSlots (t : Lapse) (payload : List Byte) (s : State) : Answered :=
  whenWf (payloadWf payload) (requestSlots payload (s.lapse t))

/-- READ_COUNTERS (R171). -/
def execReadCounters (t : Lapse) (payload : List Byte) (s : State) : Answered :=
  whenWf (payloadWf payload) (requestCounters payload (s.lapse t))

/-- FETCH_EVENT (R173, R174). -/
def execFetchEvent (t : Lapse) (payload : List Byte) (s : State) : Answered :=
  whenWf (payloadWf payload) (requestEvent payload (s.lapse t))

/-- SET_LOCAL_INHIBIT (R128, R171). -/
def execSetLocalInhibit (t : Lapse) (payload : List Byte) (s : State) : Answered :=
  whenWf (payloadWf payload) (requestLocalInhibit payload (s.lapse t))

/-- SEND_ORDER (R164). -/
def execSendOrder (t : Lapse) (payload : List Byte) (s : State) : Answered :=
  whenWf (payloadWf payload) (requestOrder payload (s.lapse t))

/-- RESET_FAILED (R155). -/
def execResetFailed (t : Lapse) (payload : List Byte) (s : State) : Answered :=
  whenWf (payloadWf payload) (requestResetFailed payload (s.lapse t))

/-- RESTART (R175). -/
def execRestart (t : Lapse) (payload : List Byte) (s : State) : Answered :=
  whenWf (payloadWf payload) (requestRestart payload (s.lapse t))

end Sys2Proof.Machine
end

