-- ==== Sys2Proof/Machine/Dispatch.lean ====
section
/-! DEFINITION. The meaning of every command: one arm for each constructor of `Instr`. -/

namespace Sys2Proof.Machine

/-- The effect of a command on everything but the queue of the commands that wait. -/
def exec (i : Instr) (s : State) : Host.Outcome State Fault Refusal :=
  match i with
  | .powerOn inhibitActive supplyHigh => Sys2Proof.Machine.execPowerOn inhibitActive supplyHigh s
  | .tachometerPulse t t2Before t2Now crossCheckFirst => Sys2Proof.Machine.execTachometerPulse t t2Before t2Now crossCheckFirst s
  | .captureCounterWrap t => Sys2Proof.Machine.execCaptureCounterWrap t s
  | .pollExpiry t => Sys2Proof.Machine.execPollExpiry t s
  | .bogieFrame t reply => Sys2Proof.Machine.execBogieFrame t reply s
  | .bodyAngleFrame t reply => Sys2Proof.Machine.execBodyAngleFrame t reply s
  | .sensorReplyTimeout t => Sys2Proof.Machine.execSensorReplyTimeout t s
  | .lineSignalDetected t port => Sys2Proof.Machine.execLineSignalDetected t port s
  | .signalLoss t port => Sys2Proof.Machine.execSignalLoss t port s
  | .settleTimeExpiry t port => Sys2Proof.Machine.execSettleTimeExpiry t port s
  | .farEndUp t port => Sys2Proof.Machine.execFarEndUp t port s
  | .flagTimeExpiry t port => Sys2Proof.Machine.execFlagTimeExpiry t port s
  | .markerTimeExpiry t port => Sys2Proof.Machine.execMarkerTimeExpiry t port s
  | .frameTruncated t port fill => Sys2Proof.Machine.execFrameTruncated t port fill s
  | .frameFormatError t port error => Sys2Proof.Machine.execFrameFormatError t port error s
  | .linkFrameReceived t port frame check offerFirst queueFirst => Sys2Proof.Machine.execLinkFrameReceived t port frame check offerFirst queueFirst s
  | .transmitComplete t port => Sys2Proof.Machine.execTransmitComplete t port s
  | .triggerHoldExpiry t => Sys2Proof.Machine.execTriggerHoldExpiry t s
  | .quietTimerExpiry t => Sys2Proof.Machine.execQuietTimerExpiry t s
  | .controlExpiry t => Sys2Proof.Machine.execControlExpiry t s
  | .supplyOkLineChange t high => Sys2Proof.Machine.execSupplyOkLineChange t high s
  | .supplyOkDebounceExpiry t => Sys2Proof.Machine.execSupplyOkDebounceExpiry t s
  | .inhibitLineChange t active => Sys2Proof.Machine.execInhibitLineChange t active s
  | .inhibitDebounceExpiry t => Sys2Proof.Machine.execInhibitDebounceExpiry t s
  | .carStateTimerExpiry t => Sys2Proof.Machine.execCarStateTimerExpiry t s
  | .configReadComplete t record carStateFirst => Sys2Proof.Machine.execConfigReadComplete t record carStateFirst s
  | .configLoadRetry t => Sys2Proof.Machine.execConfigLoadRetry t s
  | .configLoadTimeout t carStateFirst => Sys2Proof.Machine.execConfigLoadTimeout t carStateFirst s
  | .requestGapTimeout t => Sys2Proof.Machine.execRequestGapTimeout t s
  | .unknownRequest t code payload check => Sys2Proof.Machine.execUnknownRequest t code payload check s
  | .readStatus t payload => Sys2Proof.Machine.execReadStatus t payload s
  | .readRoster t payload => Sys2Proof.Machine.execReadRoster t payload s
  | .readSlots t payload => Sys2Proof.Machine.execReadSlots t payload s
  | .readCounters t payload => Sys2Proof.Machine.execReadCounters t payload s
  | .fetchEvent t payload => Sys2Proof.Machine.execFetchEvent t payload s
  | .setLocalInhibit t payload => Sys2Proof.Machine.execSetLocalInhibit t payload s
  | .sendOrder t payload => Sys2Proof.Machine.execSendOrder t payload s
  | .resetFailed t payload => Sys2Proof.Machine.execResetFailed t payload s
  | .restart t payload => Sys2Proof.Machine.execRestart t payload s
  | .startPatternFound t port => Sys2Proof.Machine.execStartPatternFound t port s

end Sys2Proof.Machine
end

