-- ==== Sys2Proof/Safety.lean ====
section
/-! DEFINITION. What it is for a state of the ET16 to be sound, in the terms of the claims: for each unit the ranges of its
state table and the relations that its rules keep between its fields. Each is decidable on a concrete state. -/

namespace Sys2Proof.Machine

/-- A command completes: it answers a next state, of which `holds` is true. -/
def completes (outcome : Answered) (holds : State → Prop) : Prop := ∃ s', outcome = .next s' ∧ holds s'

/-- A property of states that every step keeps: from every state that has it, reached or not, whatever command waits. -/
def keptByStep (sound : State → Prop) : Prop := ∀ s s' : State, sound s → step s = .next s' → sound s'

/-- A signed value lies within ±bound. -/
abbrev within (bound : Nat) (n : Int) : Prop := -(bound : Int) ≤ n ∧ n ≤ bound

/-! ## Fields of an answer or a frame (R178) -/

/-- A number as a field of some bytes, low byte first. -/
def field (width n : Nat) : List Byte := (List.range width).map fun k => BitVec.ofNat 8 (n / 256 ^ k)

/-- A signed number as a field, in two's complement. -/
def signedField (width : Nat) (n : Int) : List Byte := field width (n % ((256 ^ width : Nat) : Int)).toNat

/-- A field that may be none: a presence byte, then its bytes, 0 when it is none. -/
def presence (width : Nat) : Option (List Byte) → List Byte
  | some bytes => [1] ++ bytes
  | none       => [0] ++ List.replicate width 0

/-! ## ODO (R2, R4, R9 to R12) -/

/-- What each measurement state says of the speed and of the capture. -/
abbrev measurementSound (o : Odo) : Prop :=
  match o.measurement with
  | .void           => o.speed = 0 ∧ o.captureCounter = 0 ∧ o.overflowCount = 0
  | .started        => o.speed = 0
  | .timed period v => 1 ≤ period ∧ v ≤ 120000 ∧ o.speed ≤ v

/-- The odometry unit is within its ranges, and its speed agrees with its measurement state. -/
abbrev odometrySound (s : State) : Prop :=
  (9008 ≤ s.odo.pulseLength ∧ s.odo.pulseLength ≤ 64340) ∧
  s.odo.fraction < 1024 ∧ s.odo.captureCounter ≤ 65535 ∧ s.odo.overflowCount ≤ 7 ∧ measurementSound s.odo

/-! ## SNS and TSU (state table of chapter 2, R20, R24, R27) -/

/-- The two counts of a unit stay below their ends, and only the one of the present fault state counts. -/
abbrev healthSound (h : SensorHealth) : Prop :=
  h.bad ≤ 2 ∧ h.good ≤ 19 ∧ (h.fault = true → h.bad = 0) ∧ (h.fault = false → h.good = 0)

/-- SNS and TSU are within their ranges, and no interval runs during START. -/
abbrev sensingSound (s : State) : Prop :=
  within 6000 s.sns.lastBogie ∧ within 15000 s.sns.lastBody ∧
  healthSound s.sns.bogieHealth ∧ healthSound s.sns.bodyHealth ∧
  s.sns.window.length ≤ 20 ∧ (∀ v ∈ s.sns.window, within 6000 v) ∧
  s.tsu.intervalCount ≤ 255 ∧ within (6000 * s.tsu.intervalCount) s.tsu.intervalSum ∧
  (s.svc.startState = .loading → s.tsu.sampling = .idle)

/-! ## LNK (R33, R35, R37, R41, R43, R44) -/

/-- A frame waits in the queue of its class, with a hop that a frame may carry. -/
abbrev queuedAs (notice : Bool) (q : Queued) : Prop := isNotice q.frame.body = notice ∧ q.frame.hop.toNat ≤ 15

/-- A port's queues hold at most 8 frames of their class; an IDLE transmitter leaves none waiting; a port that is not UP
holds none and sends none; a port that is UP has its far-end flag clear. -/
abbrev portSound (p : Port) : Prop :=
  p.notices.length ≤ 8 ∧ p.streams.length ≤ 8 ∧
  (∀ q ∈ p.notices, queuedAs true q) ∧ (∀ q ∈ p.streams, queuedAs false q) ∧
  (p.sending = none → p.notices = [] ∧ p.streams = []) ∧
  (p.line ≠ .up → p.sending = none) ∧ (p.line = .up → p.farEnd = false)

/-- Both ports are sound. -/
abbrev linkSound (s : State) : Prop := portSound s.portA ∧ portSound s.portB

/-! ## RCL (R55, R57, R66, R72, R73) -/

/-- The rosters hold distinct identities within their capacities; outside NONE the roster holds self once, and a previous
roster stands in FORMING alone and never holds self; the quiet timer runs in FORMING alone. -/
abbrev rosterSound (s : State) : Prop :=
  s.rcl.roster.length ≤ 16 ∧ (s.rcl.roster.map RosterEntry.identity).Nodup ∧
  (s.rcl.previousRoster.map RosterEntry.identity).Nodup ∧
  s.rcl.previousRoster.length ≤ 15 ∧ (∀ x ∈ s.rcl.previousRoster, x.side ≠ .self) ∧
  (s.rcl.trainState = .none → s.rcl.roster = []) ∧
  (s.rcl.trainState ≠ .none → (s.rcl.roster.filter fun x => x.side = .self).length = 1) ∧
  (s.rcl.trainState ≠ .forming → s.rcl.previousRoster = [] ∧ s.rcl.quietTimer = none) ∧
  (∀ x ∈ s.rcl.roster, x.invalidCount ≤ 3) ∧ (∀ x ∈ s.rcl.previousRoster, x.invalidCount ≤ 3)

/-! ## START (R52, R72, R124, R146, R159, R91) -/

/-- During START no roll call, no timer of CSO and no binding stands, the mode is START and the command is 0. -/
abbrev startSound (s : State) : Prop :=
  s.svc.startState = .loading →
    s.rcl.trainState = .none ∧ s.rcl.quietTimer = none ∧ s.rcl.triggerHold = none ∧ s.rcl.pendingTrigger = false ∧
    s.cso.carStateTimer = none ∧ s.dmd.mode = .start ∧ s.dmd.command = 0 ∧ s.dmd.target = 0

/-! ## SRC and PVQ (R75, R78, R80, R89, R92) -/

/-- The entries of a queue stand in order: each sequence follows the one before it, each due distance is after it. -/
def inQueueOrder : List PreviewEntry → Bool
  | e :: e' :: q => follows e'.sequence e.sequence && isAfter e'.due e.due && inQueueOrder (e' :: q)
  | _            => true

/-- A preview queue within its capacity and range, in order. -/
abbrev queueSound (q : List PreviewEntry) : Prop :=
  q.length ≤ 256 ∧ inQueueOrder q = true ∧ ∀ e ∈ q, within 3000 e.accel

/-- The slots name different sources, an empty slot has an empty queue, and both queues are sound. -/
abbrev previewSound (s : State) : Prop :=
  (s.src.slotP.isSome = true → s.src.slotS.isSome = true → slotIdentity s.src.slotP ≠ slotIdentity s.src.slotS) ∧
  (s.src.slotP = none → s.pvq.queueP = []) ∧ (s.src.slotS = none → s.pvq.queueS = []) ∧
  queueSound s.pvq.queueP ∧ queueSound s.pvq.queueS

/-- Outside FORMED and FORMING no slot is bound; an unconfigured station has no eligible source and binds none. -/
abbrev bindingSound (s : State) : Prop :=
  (s.svc.startState = .loading → s.rcl.trainState = .none) ∧
  ((s.rcl.trainState = .none ∨ s.rcl.trainState = .oversize ∨ s.rcl.trainState = .conflict) →
    s.src.slotP = none ∧ s.src.slotS = none) ∧
  ((s.svc.startState = .loading ∨ s.svc.unconfigured = true) →
    s.src.slotP = none ∧ s.src.slotS = none ∧ s.src.eligible = [] ∧ s.src.ranking = [])

/-! ## XCK (R114, R115, R117, R134) -/

/-- The split counter is within its range; the latch is set only above 0 and clear only below 24; with a slot empty both
are at rest; and the mode is never PREVIEW while the latch is set. -/
abbrev splitSound (s : State) : Prop :=
  s.xck.splitCounter ≤ 48 ∧
  (s.xck.splitLatch = true → 1 ≤ s.xck.splitCounter ∧ s.dmd.mode ≠ .preview) ∧
  (s.xck.splitLatch = false → s.xck.splitCounter < 24) ∧
  (s.src.slotP = none ∨ s.src.slotS = none → s.xck.splitCounter = 0 ∧ s.xck.splitLatch = false)

/-! ## The configuration in use (R168, R169) -/

/-- A record in use lies within the ranges of R169. -/
abbrev recordSound (c : ConfigRecord) : Prop :=
  c.identity ≠ 0 ∧ (700 ≤ c.wheelDiameter ∧ c.wheelDiameter ≤ 1000) ∧ (50 ≤ c.pulsesPerRev ∧ c.pulsesPerRev ≤ 250) ∧
  (10000 ≤ c.carLength ∧ c.carLength ≤ 40000) ∧ c.sensorPos ≤ c.carLength ∧ c.refPos ≤ c.carLength ∧
  (∀ u, c.unitNumber = some u → 1 ≤ u ∧ u ≤ 15) ∧ c.lookaheadTime ≤ 800 ∧ c.compensation ≤ 90 ∧
  c.localComp ≤ c.compensation ∧ (5000 ≤ c.switchOff ∧ c.switchOff ≤ 40000) ∧
  (c.switchOff ≤ c.switchOn ∧ c.switchOn ≤ 50000) ∧ (1000 ≤ c.angleLimit ∧ c.angleLimit ≤ 10000) ∧
  (1000 ≤ c.gangwayLimit ∧ c.gangwayLimit ≤ 8000) ∧ (500 ≤ c.tiltRate ∧ c.tiltRate ≤ 15000) ∧
  (50 ≤ c.loopGain ∧ c.loopGain ≤ 2000) ∧ (100 ≤ c.threshold ∧ c.threshold ≤ 1500)

/-- The record in use is sound, the part's serial names a station, and the unit flags agree with the load fault. -/
abbrev configSound (s : State) : Prop :=
  serialIdentity s.svc.factorySerial ≠ 0 ∧ recordSound s.svc.config ∧ s.svc.unconfigured = s.svc.loadFault.isSome

/-! ## DMD (R138 to R143) -/

/-- The command and the target lie within the angle limit in use, and stand at 0 through START. -/
abbrev commandSound (s : State) : Prop :=
  within s.svc.config.angleLimit s.dmd.command ∧ within s.svc.config.angleLimit s.dmd.target ∧
  (s.svc.startState = .loading → s.dmd.command = 0 ∧ s.dmd.target = 0)

/-! ## ACT (R149, R154 to R156, R168) -/

/-- The duty lies within ±1,000 ‰ and is 0 with enable off; the enable line is off in START and FAILED, with the supply
low, and while the FAILED latch is set. -/
abbrev driveSound (s : State) : Prop :=
  within 1000 s.act.duty ∧ (s.act.enable = false → s.act.duty = 0) ∧
  (s.dmd.mode = .start ∨ s.dmd.mode = .failed ∨ s.act.supplyOk = false ∨ s.act.failedLatch = true →
    s.act.enable = false)

/-- The FAILED latch is set exactly while it has a cause; it is set while BODY-FAULT is set; and its cause is CONFIG
exactly while the station is unconfigured. -/
abbrev failureSound (s : State) : Prop :=
  s.act.failedLatch = s.act.failureCause.isSome ∧
  (s.sns.bodyHealth.fault = true → s.act.failedLatch = true) ∧
  (s.svc.unconfigured = true ↔ s.act.failureCause = some .config)

/-! ## SVC (R172 to R174) -/

/-- A record of the event set: pending exactly while its count is above 0, the count at most 255, and a detail of its own
kind exactly while it is pending. -/
abbrev recordOfKind (k : EventKind) (r : EventRecord) : Prop :=
  r.count ≤ 255 ∧ (r.pending = true ↔ 1 ≤ r.count) ∧ r.detail.map kindOf = if r.pending then some k else none

/-- Every record of the event set is sound. -/
abbrev eventsSound (s : State) : Prop := ∀ k ∈ kindsByPriority, recordOfKind k (s.svc.events.record k)

/-- A condition latch that is not pending holds the live level, and CONDITION-CHANGE is pending exactly while a latch is. -/
abbrev latchesSound (s : State) : Prop :=
  (s.svc.inhibitLatch.pending = false → s.svc.inhibitLatch.value = s.cso.inhibit) ∧
  (s.svc.supplyLatch.pending = false → s.svc.supplyLatch.value = s.act.supplyOk) ∧
  (s.svc.events.conditionChange.pending = true ↔
    s.svc.inhibitLatch.pending = true ∨ s.svc.supplyLatch.pending = true)

/-! ## Counters (R19, R47, R109, R114, R170) -/

/-- Every counter that READ-COUNTERS returns is a 16-bit number. -/
abbrev countersSound (s : State) : Prop := ∀ n ∈ counterList s, n ≤ 65535

end Sys2Proof.Machine
end

