-- ==== Sys2Proof/Certificates/Slice0/Obligations.lean ====
section
/-! DEFINITION. The statements for the provers. In a statement about a command, `u` is the state once the time that the
command carries has gone by; a statement that gives the next state as `u` with some fields replaced gives the frame with
it: every other field is as it was. `completes` says that the command answers a next state. -/

open Sys2Proof Sys2Proof.Machine

/-! ## The queue of commands and the passing of time -/

/-- The command at the front of the queue takes its effect with the queue's rest left to wait; an empty queue idles
(the model's own queue; notes/assumptions/1.md for the idling). -/
def Obligations.StepRunsTheFrontCommand : Prop :=
  (∀ (c : Instr) (rest : List Instr) (s : State), s.pending = c :: rest → step s = exec c { s with pending := rest }) ∧
  ∀ s : State, s.pending = [] → step s = .next s

/-- Every well-formed command answers a next state from every state, and leaves the queue and the part's serial alone;
an ill-formed term stops with its fault (the model's choice, notes/assumptions/4.md). -/
def Obligations.WellFormedCommandsComplete : Prop :=
  ∀ (i : Instr) (s : State),
    (i.wf = true → completes (exec i s) fun s' =>
      s'.svc.factorySerial = s.svc.factorySerial ∧ s'.pending = s.pending) ∧
    (i.wf = false → exec i s = .fault .illFormed)

/-- Time moves the clocks alone: REQUEST_GAP_TIMEOUT, which discards an incomplete request with no answer and no count
(R170), leaves all else. Each timer grows by the time that goes by and stands at its end: 65,535 of the capture counter
out of VOID, 500 µs of the wait for a reply, a port's settle, flag, clear-fill and marker times by what it hears, 30 ms
quiet, 100 ms hold, 50 ms CAR-STATE and load, and the two debounces while their levels differ (R9, R16, R35, R36, R53,
R59, R150, R159, R163, R167). Two lapses in which each port hears the same are one lapse of their sum (the model's form
of time, notes/assumptions/1.md, and the moment from which the wait counts, notes/assumptions/30.md). -/
def Obligations.TimeMovesTheClocksAlone : Prop :=
  (∀ (m n : Nat) (heardA heardB : Heard) (s : State),
    (s.lapse ⟨m, heardA, heardB⟩).lapse ⟨n, heardA, heardB⟩ = s.lapse ⟨m + n, heardA, heardB⟩) ∧
  ∀ (t : Lapse) (s : State),
    let grow (top n : Nat) : Nat := min top (n + t.us)
    let debounce (top : Nat) (raw level : Bool) (n : Nat) : Nat := if raw = level then 0 else grow top n
    let hear (heard : Heard) (p : Port) : Port := { p with
      settleTime    := if p.line = .settling then grow 10000 p.settleTime else p.settleTime
      flagTime      := if p.line ≠ .settling then p.flagTime else if p.farEnd then grow 10000000 p.flagTime else 0
      clearFillTime :=
        if p.line ≠ .settling ∨ heard = .bytes then p.clearFillTime
        else if heard = .fill .plain then grow 500 p.clearFillTime else 0
      markerTime    :=
        if p.line ≠ .up then p.markerTime else if heard = .fill .marked then grow 1000 p.markerTime else 0 }
    exec (.requestGapTimeout t) s = .next (s.lapse t) ∧
    s.lapse t =
      (if t.us = 0 then s else
      { s with
        now                := s.now + t.us
        odo.captureCounter :=
          if s.odo.measurement = .void then s.odo.captureCounter else grow 65535 s.odo.captureCounter
        sns.wait           := match s.sns.wait with
          | .idle           => .idle
          | .waiting unit n => .waiting unit (grow 500 n)
        portA              := hear t.heardA s.portA
        portB              := hear t.heardB s.portB
        rcl.quietTimer     := s.rcl.quietTimer.map (grow 30000)
        rcl.triggerHold    := s.rcl.triggerHold.map (grow 100000)
        act.debounceTime   := debounce 50000 s.act.rawSupply s.act.supplyOk s.act.debounceTime
        cso.carStateTimer  := s.cso.carStateTimer.map (grow 50000)
        cso.debounceTime   := debounce 20000 s.cso.rawInhibit s.cso.inhibit s.cso.debounceTime
        svc.loadTime       := if s.svc.startState = .loading then grow 50000 s.svc.loadTime else s.svc.loadTime
        svc.tryTime        := if s.svc.startState = .loading then grow 50000 s.svc.tryTime else s.svc.tryTime })

/-! ## Power-on and the invariants -/

/-- POWER_ON: every unit takes its power-on values (R14, R31, R48, R72, R91, R111, R122, R145, R158, R166, R176), the
two raw levels are those of the lines, and the serial of the part stays. Choices of the model in it:
notes/assumptions/5.md, 6.md, 9.md, 11.md, 12.md. -/
def Obligations.PowerOnGivesPowerOnValues : Prop :=
  ∀ (inhibitActive supplyHigh : Bool) (s : State), completes (exec (.powerOn inhibitActive supplyHigh) s) fun s' =>
    s'.odo = { pulseLength := 29596, odometer := 0, fraction := 0, direction := .unknown, measurement := .void,
               captureCounter := 0, overflowCount := 0, speed := 0 } ∧
    s'.sns.lastBogie = 0 ∧ s'.sns.lastBody = 0 ∧ s'.sns.bogieHealth = ⟨false, 0, 0⟩ ∧
    s'.sns.bodyHealth = ⟨false, 0, 0⟩ ∧ s'.sns.window = [] ∧ (∀ n ∈ counterList s', n = 0) ∧
    s'.tsu = { sampling := .idle, intervalStart := 0, intervalSum := 0, intervalCount := 0, sequence := 0 } ∧
    (∀ e : End, (s'.port e).line = .down ∧ (s'.port e).farEnd = false ∧ (s'.port e).settleTime = 0 ∧
      (s'.port e).markerTime = 0 ∧ (s'.port e).clearFillTime = 0 ∧ (s'.port e).flagTime = 0 ∧
      (s'.port e).receiver = .hunting ∧ (s'.port e).notices = [] ∧ (s'.port e).streams = [] ∧
      (s'.port e).sending = none) ∧
    s'.rcl = { currentEpoch := 0, highestEpoch := 0, trainState := .none, roster := [], previousRoster := [],
               duplicateFlag := false, overflowFlag := false, refusedCount := 0, quietTimer := none,
               triggerHold := none, pendingTrigger := false } ∧
    s'.src = { slotP := none, slotS := none, eligible := [], ranking := [], headFlag := true } ∧
    s'.pvq.queueP = [] ∧ s'.pvq.queueS = [] ∧ s'.pvq.lastLookup = none ∧
    s'.xck.splitCounter = 0 ∧ s'.xck.splitLatch = false ∧ s'.xck.threshold = 400 ∧
    s'.dmd = { mode := .start, lastCause := none, lookahead := 0, lookaheadPoint := none, lastOdometer := 0,
               standing := .none, holdRemainder := 0, heldDemand := 0, lastDemand := 0, target := 0, command := 0,
               localInhibit := false } ∧
    s'.act = { duty := 0, enable := false, loopGain := 400, rawSupply := supplyHigh, supplyOk := false,
               debounceTime := 0, blanking := 0, trackingCount := 0, failedLatch := false, failureCause := none } ∧
    s'.cso = { carStateTimer := none, neighbourA := ⟨none, none⟩, neighbourB := ⟨none, none⟩,
               rawInhibit := inhibitActive, inhibit := false, debounceTime := 0, unitInUse := none,
               orderInhibit := false } ∧
    s'.svc.startState = .loading ∧
    s'.svc.config =
      { identity := s.svc.factorySerial.setWidth 32, wheelDiameter := 920, pulsesPerRev := 100, carLength := 26400
        sensorPos := 2500, refPos := 13200, unitNumber := none, lookaheadTime := 350, compensation := 70
        localComp := 45, switchOff := 16700, switchOn := 19500, angleLimit := 8000, gangwayLimit := 4000
        tiltRate := 5000, loopGain := 400, threshold := 400 } ∧
    s'.svc.unconfigured = false ∧ s'.svc.clamped = false ∧ s'.svc.loadFault = none ∧
    s'.svc.factorySerial = s.svc.factorySerial ∧ (∀ k ∈ kindsByPriority, s'.svc.events.record k = ⟨false, 0, none⟩) ∧
    s'.svc.inhibitLatch = ⟨false, false⟩ ∧ s'.svc.supplyLatch = ⟨false, false⟩ ∧
    s'.now = 0 ∧ s'.sns.wait = .idle ∧ s'.sns.request = [] ∧ s'.svc.loadTime = 0 ∧ s'.svc.tryTime = 0 ∧
    s'.svc.answer = [] ∧ s'.pending = s.pending

/-- Every invariant below holds right after reset, which is the state that POWER_ON with both input lines at rest
leaves in a part of the same serial (that reset is this state, and its serial, are the model's choice:
notes/assumptions/3.md, 6.md). -/
def Obligations.ResetMeetsEveryInvariant : Prop :=
  exec (.powerOn false false) State.reset = .next State.reset ∧
  odometrySound State.reset ∧ sensingSound State.reset ∧ linkSound State.reset ∧ rosterSound State.reset ∧
  startSound State.reset ∧ previewSound State.reset ∧ bindingSound State.reset ∧ splitSound State.reset ∧
  configSound State.reset ∧ commandSound State.reset ∧ driveSound State.reset ∧ failureSound State.reset ∧
  eventsSound State.reset ∧ latchesSound State.reset ∧ countersSound State.reset

/-- Every step keeps ODO, SNS and TSU within the ranges of their state tables: the pulse length is 9,008 to 64,340, the
speed is at most 120,000 mm/s and is 0 in VOID and STARTED, and no interval runs during START (R2, R3, R9 to R12, R17
to R27, R169). -/
def Obligations.StepKeepsMeasurementsSound : Prop := keptByStep fun s => odometrySound s ∧ sensingSound s

/-- Every step keeps both ports sound: capacities and classes of the queues, the IDLE transmitter, the port that is not
UP (R33, R35, R37, R41, R43, R44). -/
def Obligations.StepKeepsLinkSound : Prop := keptByStep linkSound

/-- Every step keeps the rosters within their capacities, with distinct identities, and with self once (R55, R57, R66). -/
def Obligations.StepKeepsRosterSound : Prop := keptByStep rosterSound

/-- Every step keeps the slots distinct, an unbound slot's queue empty, and each queue in order (R78, R92). -/
def Obligations.StepKeepsPreviewSound : Prop := keptByStep previewSound

/-- Every step keeps what START holds still (no roll call, no CAR-STATE timer, mode START, command 0), the slots empty
outside FORMED and FORMING, and an unconfigured station without a source (R52, R75, R80, R89, R91, R124, R159). -/
def Obligations.StepKeepsStartAndBindingSound : Prop := keptByStep fun s => startSound s ∧ bindingSound s

/-- Every step keeps the split counter and latch sound: the mode is never PREVIEW while the latch is set, and an empty
slot leaves both at rest (R114, R115, R117, R134). -/
def Obligations.StepKeepsSplitSound : Prop := keptByStep splitSound

/-- Every step keeps the record in use within the ranges of R169, the unconfigured flag with the load fault (R168), and
the command and the target within the angle limit in use (R143). -/
def Obligations.StepKeepsConfigAndCommandSound : Prop := keptByStep fun s => configSound s ∧ commandSound s

/-- Every step keeps the actuator safe: duty within ±1,000 ‰, and off in START and FAILED, with the supply low, and
while the FAILED latch is set; the latch set while BODY-FAULT is, and its cause CONFIG exactly while the station is
unconfigured (R21, R149, R154 to R156, R168). -/
def Obligations.StepKeepsActuatorSound : Prop := keptByStep fun s => driveSound s ∧ failureSound s

/-- Every step keeps the event set, the condition latches and the counters sound: a kind is pending exactly while its
count is above 0, a latch not pending holds the live level, and every counter is a 16-bit number (R19, R47, R109, R114,
R170, R172, R174). -/
def Obligations.StepKeepsReportsSound : Prop := keptByStep fun s =>
  eventsSound s ∧ latchesSound s ∧ countersSound s

/-! ## ODO and TSU -/

/-- R5 and R93. Distances: after, before, equal, the signed difference, and the sum of a distance and a number of
millimetres. Sequences: s follows t when it lies 1 to 1,000 ahead modulo 65,536, with one less than that missing. -/
def Obligations.DistancesAndSequencesWrapAround : Prop :=
  (∀ (x y : Distance) (k : Int), let d := (x - y).toNat
    (isAfter x y = true ↔ 1 ≤ d ∧ d ≤ 2 ^ 31 - 1) ∧ (isBefore x y = true ↔ isAfter y x = true) ∧
    (isBefore x y = true ↔ 2 ^ 31 + 1 ≤ d ∧ d ≤ 2 ^ 32 - 1) ∧ (x = y ↔ d = 0) ∧
    (d = 2 ^ 31 → isAfter x y = false ∧ isBefore x y = false) ∧
    distanceDiff x y = (if d ≤ 2 ^ 31 - 1 then (d : Int) else (d : Int) - 2 ^ 32) ∧
    (-(2 ^ 31) ≤ distanceDiff x y ∧ distanceDiff x y ≤ 2 ^ 31 - 1) ∧
    ((distanceAdd x k).toNat : Int) = ((x.toNat : Int) + k) % 2 ^ 32 ∧
    (isAtOrAfter x y = true ↔ x = y ∨ isAfter x y = true) ∧
    (distanceApart x y : Int) = |distanceDiff x y|) ∧
  (∀ x y : Sequence, (follows x y = true ↔ ∃ k : Nat, 1 ≤ k ∧ k ≤ 1000 ∧ x = y + BitVec.ofNat 16 k) ∧
    (follows x y = true → x = y + BitVec.ofNat 16 (missingBetween x y + 1)) ∧
    (follows x y = true → follows y x = false)) ∧
  follows 0 65535 = true ∧ missingBetween 0 65535 = 0 ∧ follows 3 65534 = true ∧ missingBetween 3 65534 = 4

/-- TACHOMETER_PULSE, what ODO does: the sense from the level of T2 at the edge (a change in the edge's own sample
counts as following it), the advance of the path, and the measurement (R1, R4, R6, R7, R9, R10). -/
def Obligations.PulseAdvancesPathAndMeasuresSpeed : Prop :=
  ∀ (t : Lapse) (t2Before t2Now crossCheckFirst : Bool) (s : State),
    let u := s.lapse t
    let sense := if t2Before then Direction.towardA else Direction.towardB
    let period := max 1 (u.odo.overflowCount * 65536 + u.odo.captureCounter)
    let v := min 120000 (u.odo.pulseLength * 15625 / (16 * period))
    completes (exec (.tachometerPulse t t2Before t2Now crossCheckFirst) s) fun s' =>
      s'.odo.odometer = u.odo.odometer + BitVec.ofNat 32 ((u.odo.fraction + u.odo.pulseLength) / 1024) ∧
      s'.odo.fraction = (u.odo.fraction + u.odo.pulseLength) % 1024 ∧
      s'.odo.direction = sense ∧ s'.odo.pulseLength = u.odo.pulseLength ∧
      s'.odo.captureCounter = 0 ∧ s'.odo.overflowCount = 0 ∧
      (if (u.odo.direction ≠ .unknown ∧ u.odo.direction ≠ sense) ∨ u.odo.measurement = .void then
        s'.odo.measurement = .started ∧ s'.odo.speed = 0
      else s'.odo.measurement = .timed period v ∧ s'.odo.speed = v)

/-- TACHOMETER_PULSE that is no reversal, what TSU does: with the conditions it starts an interval, lets a short one go
on, or closes one of 2,000 mm or more and publishes it; without them a running interval is discarded. ODO and TSU are
all that changes, but for the copies of a published frame (R26 to R30). Choices of the model in it:
notes/assumptions/24.md. -/
def Obligations.PulseSamplesTheTrack : Prop :=
  ∀ (t : Lapse) (t2Before t2Now crossCheckFirst : Bool) (s : State),
    let u := s.lapse t
    let sense := if t2Before then Direction.towardA else Direction.towardB
    u.odo.direction = .unknown ∨ u.odo.direction = sense →
    completes (exec (.tachometerPulse t t2Before t2Now crossCheckFirst) s) fun s' =>
      let length := distanceDiff s'.odo.odometer u.tsu.intervalStart
      let mean := if u.tsu.intervalCount = 0 then 0
        else max (-3000) (min 3000 (u.tsu.intervalSum.tdiv u.tsu.intervalCount))
      let started : Tsu := { u.tsu with
        sampling := .running, intervalStart := s'.odo.odometer, intervalSum := 0, intervalCount := 0 }
      if u.svc.startState = .done ∧ 5000 ≤ s'.odo.speed then
        if u.tsu.sampling = .idle then s' = { u with odo := s'.odo, tsu := started }
        else if length < 2000 then s' = { u with odo := s'.odo }
        else
          s' = originate
            (.trackSample
              { source := u.svc.config.identity, sequence := u.tsu.sequence + 1, accel := BitVec.ofInt 16 mean
                valid := decide (2 ≤ u.tsu.intervalCount) && !u.sns.bogieHealth.fault
                backdate := BitVec.ofInt 15 (length.tdiv 2) })
            { u with odo := s'.odo, tsu := { started with sequence := u.tsu.sequence + 1 } }
      else if u.tsu.sampling = .idle then s' = { u with odo := s'.odo }
      else s' = { u with odo := s'.odo, tsu.sampling := .idle, tsu.intervalSum := 0, tsu.intervalCount := 0 }

/-- TACHOMETER_PULSE that is a reversal: in either order of XCK and SRC the preview is gone: P is empty, both queues
are flushed, the split is at rest, the hold has ended and no interval runs; S is empty but in FORMED, where it holds
the best-ranked source of the judgement with the new direction. A step that changed a binding raises SOURCE-CHANGE with
the cause REVERSAL, and a set latch raises one SPLIT: with the cause REVERSAL and the slots before the step when XCK is
first, with the cause BINDING and those after it when a step that changed a binding is. All else but ODO stays (R7,
R29, R86, R87, R107, R117, R118, R146). Choices of the model in it: notes/assumptions/2.md, 16.md. -/
def Obligations.ReversalEndsPreview : Prop :=
  ∀ (t : Lapse) (t2Before t2Now crossCheckFirst : Bool) (s : State),
    let u := s.lapse t
    let sense := if t2Before then Direction.towardA else Direction.towardB
    u.odo.direction ≠ .unknown → u.odo.direction ≠ sense →
    completes (exec (.tachometerPulse t t2Before t2Now crossCheckFirst) s) fun s' =>
      let judged := (judgeSources { u with odo := s'.odo, src.slotP := none, src.slotS := none }).src
      let best := if u.rcl.trainState = .formed then judged.ranking.head? else none
      let changed := u.src.slotP.isSome || u.src.slotS.isSome || best.isSome
      let cleared (cause : SplitCause) (p q : Option Source) : Detail :=
        .split .clear cause 0 (slotIdentity p) (slotIdentity q)
      s'.odo.speed = 0 ∧ s'.odo.direction = sense ∧
      s' =
        { u with
          odo := s'.odo
          tsu := if u.tsu.sampling = .idle then u.tsu
            else { u.tsu with sampling := .idle, intervalSum := 0, intervalCount := 0 }
          src := { judged with slotP := none, slotS := best }
          pvq := { u.pvq with queueP := [], queueS := [] }
          xck := { u.xck with splitCounter := 0, splitLatch := false }
          dmd := { u.dmd with holdRemainder := 0 }
          svc := { u.svc with events := s'.svc.events } } ∧
      s'.svc.events.sourceChange =
        (if changed then u.raise (.sourceChange .reversal (slotIdentity u.src.slotP) 0 (slotIdentity best))
        else u).svc.events.sourceChange ∧
      s'.svc.events.split =
        (if u.xck.splitLatch = false then u
        else if crossCheckFirst then u.raise (cleared .reversal u.src.slotP u.src.slotS)
        else if changed then u.raise (cleared .binding none best)
        else u.raise (cleared .reversal none none)).svc.events.split ∧
      ∀ k, k ≠ .sourceChange → k ≠ .split → s'.svc.events.record k = u.svc.events.record k

/-- CAPTURE_COUNTER_WRAP: nothing in VOID; the wrap that would raise the overflow count to 8 makes the measurement VOID
with speed 0; any other raises the count (R11). POLL_EXPIRY: the speed takes the decay bound, TSU judges its conditions
against it, and the request to the bogie unit goes out; nothing else changes (R12, R16, R26, R29). Choices of the model
in it: notes/assumptions/8.md, 21.md, 30.md. -/
def Obligations.SpeedFallsWithoutPulses : Prop :=
  ∀ (t : Lapse) (s : State), let u := s.lapse t
    let since := u.odo.overflowCount * 65536 + u.odo.captureCounter
    exec (.captureCounterWrap t) s = .next
      (if u.odo.measurement = .void then u
      else if 8 ≤ u.odo.overflowCount + 1 then
        { u with odo.measurement := .void, odo.captureCounter := 0, odo.overflowCount := 0, odo.speed := 0 }
      else { u with odo.captureCounter := 0, odo.overflowCount := u.odo.overflowCount + 1 }) ∧
    completes (exec (.pollExpiry t) s) fun s' =>
      (∀ period v, u.odo.measurement = .timed period v → s'.odo.speed =
        if period < since then min v (u.odo.pulseLength * 15625 / (16 * since)) else v) ∧
      ((∀ period v, u.odo.measurement ≠ .timed period v) → s'.odo.speed = u.odo.speed) ∧
      s'.tsu =
        (if u.svc.startState = .done ∧ u.odo.direction ≠ .unknown ∧ 5000 ≤ s'.odo.speed then
          if u.tsu.sampling = .idle then
            { u.tsu with sampling := .running, intervalStart := u.odo.odometer, intervalSum := 0, intervalCount := 0 }
          else u.tsu
        else if u.tsu.sampling = .idle then u.tsu
        else { u.tsu with sampling := .idle, intervalSum := 0, intervalCount := 0 }) ∧
      s' =
        { u with
          odo.speed   := s'.odo.speed
          tsu         := s'.tsu
          sns.wait    := .waiting .bogie 0
          sns.request := 1 :: bytes16 (checkOf [1]) }

/-! ## SNS -/

/-- BOGIE_FRAME while the bogie reply is awaited. A good reply: its clamped value becomes the last value and joins the
window and the running interval. A bad one: one cause is counted, the first of the list, and no value moves. Either way
the fault state is judged, its setting empties the window, its setting or clearing raises SENSOR-FAULT, and the
body-angle unit is asked (R16, R17, R19, R20, R22, R24, R27). Choices of the model in it: notes/assumptions/9.md,
30.md. -/
def Obligations.BogieReplyIsJudgedAndUsed : Prop :=
  ∀ (t : Lapse) (r : SensorReply) (time : Nat) (s : State), let u := s.lapse t
    let good := decide (r.check = checkOf ([r.address, r.status] ++ bytes16 r.value) ∧ r.address = 1 ∧ r.status = 0)
    let v := max (-6000) (min 6000 r.value.toInt)
    let health := healthAfter good u.sns.bogieHealth
    u.sns.wait = .waiting .bogie time →
    completes (exec (.bogieFrame t r) s) fun s' =>
      s'.sns.bogieHealth = health ∧ s'.sns.wait = .waiting .body 0 ∧ s'.sns.request = 2 :: bytes16 (checkOf [2]) ∧
      s'.sns.lastBogie = (if good then v else u.sns.lastBogie) ∧
      s'.sns.window =
        (if !u.sns.bogieHealth.fault && health.fault then []
        else if good then (if 20 ≤ u.sns.window.length then u.sns.window.tail else u.sns.window) ++ [v]
        else u.sns.window) ∧
      s'.tsu =
        (if good ∧ u.tsu.sampling = .running ∧ u.tsu.intervalCount < 255 then
          { u.tsu with intervalSum := u.tsu.intervalSum + v, intervalCount := u.tsu.intervalCount + 1 }
        else u.tsu) ∧
      s'.sns.counters =
        (if r.check ≠ checkOf ([r.address, r.status] ++ bytes16 r.value) then
          { u.sns.counters with bogie.checkFailure := min 65535 (u.sns.counters.bogie.checkFailure + 1) }
        else if r.address ≠ 1 then
          { u.sns.counters with bogie.wrongAddress := min 65535 (u.sns.counters.bogie.wrongAddress + 1) }
        else if r.status ≠ 0 then
          { u.sns.counters with bogie.faultStatus := min 65535 (u.sns.counters.bogie.faultStatus + 1) }
        else if 6000 < r.value.toInt.natAbs then
          { u.sns.counters with bogieClamped := min 65535 (u.sns.counters.bogieClamped + 1) }
        else u.sns.counters) ∧
      s'.svc.events =
        (if !u.sns.bogieHealth.fault && health.fault then u.raise (.sensorFault .bogie .set)
        else if u.sns.bogieHealth.fault && !health.fault then u.raise (.sensorFault .bogie .clear)
        else u).svc.events ∧
      s' = { u with
             tsu := s'.tsu
             sns := { s'.sns with lastBody := u.sns.lastBody, bodyHealth := u.sns.bodyHealth }
             svc.events := s'.svc.events }

/-- BODY_ANGLE_FRAME while the body-angle reply is awaited. A good reply replaces the last body angle; a bad one leaves
it and is counted by its first cause, an angle beyond ±15,000 mdeg among them. A setting or clearing of BODY-FAULT
raises SENSOR-FAULT; its setting sets the FAILED latch with cause SENSOR and takes the drive off, or is reported as a
further cause of a set latch (R16, R18 to R21, R149, R154). Choices of the model in it: notes/assumptions/9.md. -/
def Obligations.BodyReplyIsJudgedAndFailsTheCar : Prop :=
  ∀ (t : Lapse) (r : SensorReply) (time : Nat) (s : State), let u := s.lapse t
    let checked := decide (r.check = checkOf ([r.address, r.status] ++ bytes16 r.value) ∧ r.address = 2 ∧ r.status = 0)
    let good := checked && decide (-15000 ≤ r.value.toInt ∧ r.value.toInt ≤ 15000)
    let health := healthAfter good u.sns.bodyHealth
    let faultSet := !u.sns.bodyHealth.fault && health.fault
    u.sns.wait = .waiting .body time →
    completes (exec (.bodyAngleFrame t r) s) fun s' =>
      s'.sns.bodyHealth = health ∧ s'.sns.wait = .idle ∧
      s'.sns.lastBody = (if good then r.value.toInt else u.sns.lastBody) ∧
      s'.sns.counters =
        (if good then u.sns.counters
        else if checked then
          { u.sns.counters with bodyOutOfRange := min 65535 (u.sns.counters.bodyOutOfRange + 1) }
        else if r.check ≠ checkOf ([r.address, r.status] ++ bytes16 r.value) then
          { u.sns.counters with body.checkFailure := min 65535 (u.sns.counters.body.checkFailure + 1) }
        else if r.address ≠ 2 then
          { u.sns.counters with body.wrongAddress := min 65535 (u.sns.counters.body.wrongAddress + 1) }
        else { u.sns.counters with body.faultStatus := min 65535 (u.sns.counters.body.faultStatus + 1) }) ∧
      s'.act =
        (if faultSet && !u.act.failedLatch then
          { u.act with failedLatch := true, failureCause := some .sensor, enable := false, duty := 0
                       trackingCount := 0, blanking := 0 }
        else u.act) ∧
      s'.svc.events =
        (if faultSet then (u.raise (.sensorFault .body .set)).raise (.actuatorFault .sensor u.act.failedLatch)
        else if u.sns.bodyHealth.fault && !health.fault then u.raise (.sensorFault .body .clear)
        else u).svc.events ∧
      s' = { u with
             sns := { u.sns with lastBody := s'.sns.lastBody, bodyHealth := s'.sns.bodyHealth
                                 counters := s'.sns.counters, wait := s'.sns.wait }
             act := s'.act
             svc.events := s'.svc.events }

/-- SENSOR_REPLY_TIMEOUT: the awaited unit's frame is bad as no reply, and the poll goes on as after a reply: from the
bogie unit to the body-angle unit, from there to rest. The third in a row sets the unit's fault and raises
SENSOR-FAULT: BOGIE-FAULT empties the window, BODY-FAULT sets the FAILED latch with cause SENSOR and takes the drive
off. With none awaited nothing changes, and no more does a reply that is not awaited (R16, R19, R21, R22). The fault of
a unit is set at the third of consecutive bad frames and cleared at the twentieth of consecutive good ones, not before;
a good frame sets a clear fault's count back, and a bad one a set fault's (R20). Choices of the model in it:
notes/assumptions/9.md, 30.md. -/
def Obligations.SilenceCountsTowardTheFault : Prop :=
  (∀ n : Nat, ((List.replicate n false).foldl (fun h g => healthAfter g h) ⟨false, 0, 0⟩).fault = decide (3 ≤ n)) ∧
  (∀ n : Nat, ((List.replicate n true).foldl (fun h g => healthAfter g h) ⟨true, 0, 0⟩).fault = decide (n < 20)) ∧
  (∀ h : SensorHealth, healthAfter (!h.fault) h = if h.fault then { h with good := 0 } else { h with bad := 0 }) ∧
  ∀ (t : Lapse) (time : Nat) (r : SensorReply) (s : State), let u := s.lapse t
    let bogie := healthAfter false u.sns.bogieHealth
    let body := healthAfter false u.sns.bodyHealth
    let bogieSet := !u.sns.bogieHealth.fault && bogie.fault
    let bodySet := !u.sns.bodyHealth.fault && body.fault
    (u.sns.wait = .waiting .bogie time →
      exec (.bodyAngleFrame t r) s = .next u ∧
      exec (.sensorReplyTimeout t) s = .next
        { u with
          sns.counters.bogie.noReply := min 65535 (u.sns.counters.bogie.noReply + 1)
          sns.bogieHealth := bogie
          sns.window      := if bogieSet then [] else u.sns.window
          sns.wait        := .waiting .body 0
          sns.request     := 2 :: bytes16 (checkOf [2])
          svc.events      := (if bogieSet then u.raise (.sensorFault .bogie .set) else u).svc.events }) ∧
    (u.sns.wait = .waiting .body time →
      exec (.bogieFrame t r) s = .next u ∧
      exec (.sensorReplyTimeout t) s = .next
        { u with
          sns.counters.body.noReply := min 65535 (u.sns.counters.body.noReply + 1)
          sns.bodyHealth := body
          sns.wait       := .idle
          act := if bodySet && !u.act.failedLatch then
              { u.act with failedLatch := true, failureCause := some .sensor, enable := false, duty := 0
                           trackingCount := 0, blanking := 0 }
            else u.act
          svc.events :=
            (if bodySet then (u.raise (.sensorFault .body .set)).raise (.actuatorFault .sensor u.act.failedLatch)
            else u).svc.events }) ∧
    (u.sns.wait = .idle →
      exec (.sensorReplyTimeout t) s = .next u ∧ exec (.bogieFrame t r) s = .next u ∧
      exec (.bodyAngleFrame t r) s = .next u)

/-- R25: the local value is the mean of the window truncated toward zero, 0 for an empty window; it lies within ±6,000;
and the demand of LOCAL is worked out from it, the window as it stands. -/
def Obligations.LocalValueIsTheTruncatedMean : Prop :=
  localValue [] = 0 ∧
  (∀ w : List Int, w ≠ [] → localValue w = w.sum.tdiv w.length) ∧
  (∀ w : List Int, w.length ≤ 20 → (∀ v ∈ w, within 6000 v) → within 120000 w.sum ∧ within 6000 (localValue w)) ∧
  ∀ s : State, s.dmd.mode = .localBogie → modeDemand s =
    ((s.svc.config.localComp : Int) * max (-2000) (min 2000 (localValue s.sns.window)) * 3829).tdiv 65536

/-! ## LNK: line states -/

/-- LINE_SIGNAL_DETECTED, SIGNAL_LOSS and MARKER_TIME_EXPIRY. The first change of level takes a DOWN port to SETTLING
with its times at 0 and raises nothing. A gap takes SETTLING back to DOWN in silence, and UP to DOWN; 1 ms of marked
fill takes UP to DOWN and sets the far-end flag, which a gap leaves. Leaving UP raises PORT-CHANGE and is a trigger,
the queues emptied uncounted and the frame abandoned (R33, R34, R36, R37). Choices of the model in it:
notes/assumptions/8.md, 17.md. -/
def Obligations.SignalMovesThePort : Prop :=
  ∀ (t : Lapse) (e : End) (s : State), let u := s.lapse t
    let lost : Port := { u.port e with
      line := .down, settleTime := 0, markerTime := 0, clearFillTime := 0, flagTime := 0, receiver := .hunting }
    exec (.lineSignalDetected t e) s = .next
      (if (u.port e).line = .down then
        u.setPort e { u.port e with line := .settling, settleTime := 0, clearFillTime := 0, flagTime := 0 }
      else u) ∧
    exec (.signalLoss t e) s = .next
      (match (u.port e).line with
      | .down => u
      | .settling => u.setPort e lost
      | .up => takeTrigger ((u.setPort e { lost with notices := [], streams := [], sending := none }).raise
          (.portChange e false .signalLoss))) ∧
    exec (.markerTimeExpiry t e) s = .next
      (if (u.port e).line = .up then
        takeTrigger ((u.setPort e { u.port e with
          line := .down, farEnd := true, markerTime := 1000, receiver := .hunting, notices := [], streams := []
          sending := none }).raise (.portChange e false .farEndFail))
      else u)

/-- A SETTLING port goes UP when its settle time reaches 10 ms with the far-end flag clear, when it has heard 500 µs of
plain fill, or when its flag time runs out with its settle time at 10 ms; on entry its flag is clear, its receiver
HUNTING, its transmitter IDLE and its queues empty, PORT-CHANGE is raised, and RCL takes a trigger. With the flag set,
the settle time alone does not take it UP; in DOWN and UP the commands change nothing (SETTLE_TIME_EXPIRY, FAR_END_UP,
FLAG_TIME_EXPIRY; R35, R37). Choices of the model in it: notes/assumptions/8.md, 17.md. -/
def Obligations.SettledPortGoesUp : Prop :=
  ∀ (t : Lapse) (e : End) (s : State), let u := s.lapse t
    let up : Port := { u.port e with
      line := .up, farEnd := false, markerTime := 0, flagTime := 0, receiver := .hunting, notices := []
      streams := [], sending := none }
    exec (.settleTimeExpiry t e) s = .next
      (if (u.port e).line = .settling then
        if (u.port e).farEnd then u.setPort e { u.port e with settleTime := 10000 }
        else takeTrigger ((u.setPort e { up with settleTime := 10000 }).raise (.portChange e true .settled))
      else u) ∧
    exec (.farEndUp t e) s = .next
      (if (u.port e).line = .settling then
        takeTrigger ((u.setPort e { up with clearFillTime := 500 }).raise (.portChange e true .farEndUp))
      else u) ∧
    exec (.flagTimeExpiry t e) s = .next
      (if (u.port e).line = .settling ∧ (u.port e).farEnd = true then
        if 10000 ≤ (u.port e).settleTime then
          takeTrigger ((u.setPort e { u.port e with
            line := .up, farEnd := false, markerTime := 0, flagTime := 0, receiver := .hunting, notices := []
            streams := [], sending := none }).raise (.portChange e true .settled))
        else u.setPort e { u.port e with farEnd := false, flagTime := 0 }
      else u)

/-! ## LNK: receiver and acceptance -/

/-- START_PATTERN_FOUND takes a HUNTING receiver to IN-FRAME, which notes the line state; FRAME_TRUNCATED and
FRAME_FORMAT_ERROR take it back, each counted once on its own port; a HUNTING receiver counts nothing. No other field
of the state changes but the marker and clear-fill times that the byte or the fill sets back (R35, R36, R38, R39).
Choices of the model in it: notes/assumptions/10.md. -/
def Obligations.SpoiledFramesAreCountedAndDropped : Prop :=
  ∀ (t : Lapse) (e : End) (fill : Fill) (error : FormatError) (s : State), let u := s.lapse t
    completes (exec (.startPatternFound t e) s) (fun s' =>
      s' = u.setPort e { u.port e with
        markerTime :=
          if (u.port e).receiver = .hunting ∧ (u.port e).line = .up then 0 else (u.port e).markerTime
        receiver := if (u.port e).receiver = .hunting then .inFrame (u.port e).line else (u.port e).receiver }) ∧
    completes (exec (.frameTruncated t e fill) s) (fun s' =>
      s' = u.setPort e { u.port e with
        markerTime := if (u.port e).line = .up ∧ fill = .plain then 0 else (u.port e).markerTime
        clearFillTime := if (u.port e).line = .settling ∧ fill = .marked then 0 else (u.port e).clearFillTime
        receiver := .hunting
        counters.truncated :=
          if (u.port e).receiver = .hunting then (u.port e).counters.truncated
          else min 65535 ((u.port e).counters.truncated + 1) }) ∧
    ((match error with
      | .kind byte => decide (byte.toNat < 1 ∨ 5 < byte.toNat)
      | .hop byte  => decide (15 < byte.toNat)) = true → completes (exec (.frameFormatError t e error) s) (fun s' =>
      s' = u.setPort e { u.port e with
        markerTime := if (u.port e).line = .up then 0 else (u.port e).markerTime
        receiver := .hunting
        counters.formatErrors :=
          if (u.port e).receiver = .hunting then (u.port e).counters.formatErrors
          else min 65535 ((u.port e).counters.formatErrors + 1) }))

/-- LINK_FRAME_RECEIVED. A failing check is counted on the port, and a good check on a port that was not UP at both
moments is not; nothing is handed on or forwarded, and nothing else changes. An accepted frame is counted, 10 units are
added to its age, and it is handed to the units and offered to the other port with one hop more if its hop is below 15,
in either order. ROLL-START and ROLL-ENTRY go to RCL, TRACK-SAMPLE to RCL and PVQ in either order, CAR-STATE to RCL and
then CSO, TILT-ORDER to CSO. A HUNTING receiver completes no frame (R38 to R41). The clause on the two orders is the
model's choice where the acceptance makes the station send several own frames: the forwarded frame joins before or
after all of them, never between two, an order that the manual leaves open (R43). Choices of the model in it:
notes/assumptions/2.md, 10.md, 26.md. -/
def Obligations.ReceivedFrameIsJudged : Prop :=
  (∀ (t : Lapse) (e : End) (f : LinkFrame) (check : Check) (offerFirst queueFirst : Bool) (s : State), let u := s.lapse t
    let base : Port := { u.port e with
      markerTime := if (u.port e).line = .up then 0 else (u.port e).markerTime, receiver := .hunting }
    let aged : LinkFrame := { f with age := BitVec.ofNat 16 (min 65535 (f.age.toNat + 10)) }
    let onward (v : State) : State :=
      if f.hop.toNat < 15 then offerTo (otherEnd e) { aged with hop := f.hop + 1 } v else v
    let counted := u.setPort e { base with counters.accepted := min 65535 (base.counters.accepted + 1) }
    f.hop.toNat ≤ 15 →
    ((u.port e).receiver = .hunting → exec (.linkFrameReceived t e f check offerFirst queueFirst) s = .next u) ∧
    ∀ line, (u.port e).receiver = .inFrame line →
      exec (.linkFrameReceived t e f check offerFirst queueFirst) s = .next
        (if check ≠ checkOf (frameCovered f) then
          u.setPort e { base with counters.checkFailures := min 65535 (base.counters.checkFailures + 1) }
        else if line ≠ .up ∨ (u.port e).line ≠ .up then u.setPort e base
        else if offerFirst then handFrame e aged queueFirst (onward counted)
        else onward (handFrame e aged queueFirst counted))) ∧
  ∀ (e : End) (hop : Byte) (age : BitVec 16) (epoch : Epoch) (origin : Identity) (r : RollEntry) (k : TrackSample)
    (c : CarStateFrame) (o : TiltOrder) (s : State),
    let heard (v : State) : State := takeLiveness k.source e hop (applySample s.now k) v
    (∀ b, handFrame e ⟨hop, age, .rollStart epoch origin⟩ b s = takeRollStart epoch s) ∧
    (∀ b, handFrame e ⟨hop, age, .rollEntry r⟩ b s = takeRollEntry e hop r s) ∧
    handFrame e ⟨hop, age, .trackSample k⟩ true s = heard (takeSample k age.toNat s) ∧
    handFrame e ⟨hop, age, .trackSample k⟩ false s = takeSample k age.toNat (heard s) ∧
    (∀ b, handFrame e ⟨hop, age, .carState c⟩ b s =
      reportNeighbour e hop c (takeLiveness c.identity e hop (applyCarState s.now c) s)) ∧
    (∀ b, handFrame e ⟨hop, age, .tiltOrder o⟩ b s = takeOrder o s)

/-- R43, R44, R46: a frame offered to a port that is not UP changes nothing; to a full queue of its class it is
dropped, counted and reported, the queue kept; otherwise it joins the tail, or, where the transmitter was IDLE with
both queues empty, is started at once with its age as it joined, a stream frame of more than 500 units being dropped as
stale and counted instead. The rest of the state stays. R42: an own frame has hop 0 and age 0 and is offered to both
ports, each taking its copy as though it were offered there alone, and nothing changes but the ports and the event set.
The two ports are one pair of their ends, and ROLL-START, ROLL-ENTRY and TILT-ORDER are the notices. Choices of the
model in it: notes/assumptions/24.md. -/
def Obligations.OfferedFrameJoinsOrDrops : Prop :=
  (∀ body : FrameBody, isNotice body = match body with
    | .rollStart _ _ | .rollEntry _ | .tiltOrder _ => true
    | .trackSample _ | .carState _ => false) ∧
  (∀ (s : State) (p : Port), s.port .a = s.portA ∧ s.port .b = s.portB ∧
    s.setPort .a p = { s with portA := p } ∧ s.setPort .b p = { s with portB := p } ∧
    otherEnd .a = .b ∧ otherEnd .b = .a) ∧
  (∀ (body : FrameBody) (s : State), let own : LinkFrame := ⟨0, 0, body⟩; let v := originate body s
    v = offerTo .b own (offerTo .a own s) ∧ (∀ e, v.port e = (offerTo e own s).port e) ∧
    v = { s with portA := v.portA, portB := v.portB, svc.events := v.svc.events }) ∧
  ∀ (e : End) (f : LinkFrame) (s : State), let p := s.port e
    let full := if isNotice f.body then 8 ≤ p.notices.length else 8 ≤ p.streams.length
    (p.line ≠ .up → offerTo e f s = s) ∧
    (p.line = .up → full → offerTo e f s =
      (s.setPort e
        (if isNotice f.body then { p with counters.noticeDrops := min 65535 (p.counters.noticeDrops + 1) }
        else { p with counters.streamDrops := min 65535 (p.counters.streamDrops + 1) })).raise
        (.queueLoss (if isNotice f.body then .notice e else .stream e))) ∧
    (p.line = .up → ¬full → p.sending.isSome = true → offerTo e f s =
      s.setPort e (if isNotice f.body then { p with notices := p.notices ++ [⟨f, s.now⟩] }
        else { p with streams := p.streams ++ [⟨f, s.now⟩] })) ∧
    (p.line = .up → p.sending = none → p.notices = [] → p.streams = [] →
      p.counters.staleDrops ≤ 65535 → (isNotice f.body = true ∨ f.age.toNat ≤ 500) →
      offerTo e f s = s.setPort e { p with sending := some f }) ∧
    (p.line = .up → p.sending = none → p.notices = [] → p.streams = [] → isNotice f.body = false → 500 < f.age.toNat →
      offerTo e f s = s.setPort e { p with counters.staleDrops := min 65535 (p.counters.staleDrops + 1) })

/-- TRANSMIT_COMPLETE: the transmitter takes the head of the notice queue; with none, the first stream frame whose age
would be 500 units or less, dropping and counting the stale ones before it; with none, it becomes IDLE (R44 to R46).
Choices of the model in it: notes/assumptions/8.md. -/
def Obligations.TransmitterPrefersNoticesAndDropsStale : Prop :=
  ∀ (t : Lapse) (e : End) (s : State), let u := s.lapse t
    let p := u.port e
    let age (q : Queued) : Nat := min 65535 (q.frame.age.toNat + (u.now - q.since) / 10)
    let start (q : Queued) : LinkFrame := { q.frame with age := BitVec.ofNat 16 (age q) }
    let stale (q : Queued) : Bool := decide (500 < age q)
    (p.sending = none → exec (.transmitComplete t e) s = .next u) ∧
    (∀ f q rest, p.sending = some f → p.notices = q :: rest → exec (.transmitComplete t e) s = .next
      (u.setPort e { p with notices := rest, sending := some (start q) })) ∧
    (∀ f, p.sending = some f → p.notices = [] → exec (.transmitComplete t e) s = .next
      (u.setPort e { p with
        streams := (p.streams.dropWhile stale).tail
        sending := (p.streams.dropWhile stale).head?.map start
        counters.staleDrops := min 65535 (p.counters.staleDrops + (p.streams.takeWhile stale).length) }))

/-! ## RCL -/

/-- R51, R54, R55: epochs compare by 1 to 127 ahead modulo 256, and a roll call of the station's own has one newer than
its current one: the highest seen plus 1, or else the current plus 1. RCL enters the epoch, with the roster set aside
and self entered alone, and the quiet timer starts; each port takes ROLL-START and then the ROLL-ENTRY of that port as
though they were offered there alone: where it is UP, sending, and has room, they join in this order; where it is not
UP it receives neither. No event but QUEUE-LOSS is raised, and slots, preview queues, split, mode, neighbours and all
else stay as they are (R69). That the entries set aside keep their places is the model's choice,
notes/assumptions/31.md. The self entry holds the record in use, the unconfigured flag and the unit number, 0 for an
unconfigured station, with no place and no liveness; the ROLL-ENTRY of a port carries the same with the end of that
port as its sent-from end. -/
def Obligations.OwnRollCallEntersTheEpoch : Prop :=
  (∀ e f : Epoch, (isNewer e f = true ↔ ∃ k : Nat, 1 ≤ k ∧ k ≤ 127 ∧ e = f + BitVec.ofNat 8 k) ∧
    (isNewer e f = true → isNewer f e = false) ∧
    (e = f + 128 → isNewer e f = false ∧ isNewer f e = false)) ∧
  (∀ r : Rcl, isNewer (ownEpoch r) r.currentEpoch = true ∧
    (isNewer (r.highestEpoch + 1) r.currentEpoch = true → ownEpoch r = r.highestEpoch + 1) ∧
    (isNewer (r.highestEpoch + 1) r.currentEpoch = false → ownEpoch r = r.currentEpoch + 1)) ∧
  ∀ s : State, let epoch := ownEpoch s.rcl
    let v := startRollCall s
    let unit := if s.svc.unconfigured then 0 else s.svc.config.unitNumber.getD 0
    let self : RosterEntry :=
      { identity := s.svc.config.identity, side := .self, hop := none, sentFrom := none, ordinal := none
        aFacesEnd0 := none, carLength := s.svc.config.carLength, sensorPos := s.svc.config.sensorPos
        refPos := s.svc.config.refPos, unitNumber := unit, unconfigured := s.svc.unconfigured, position := none
        trainDistance := none, lastCarState := none, lastValid := none, invalidCount := 0 }
    let entry (k : Epoch) (e : End) : RollEntry :=
      { epoch := k, identity := s.svc.config.identity
        flags := (if s.svc.unconfigured then 1 else 0) ||| (if e = .b then 2 else 0)
        carLength := BitVec.ofNat 16 s.svc.config.carLength, sensorPos := BitVec.ofNat 16 s.svc.config.sensorPos
        refPos := BitVec.ofNat 16 s.svc.config.refPos, unitNumber := BitVec.ofNat 8 unit }
    selfEntry s = self ∧ (∀ (k : Epoch) (e : End), ownRollEntry k e s = entry k e) ∧
    v.rcl =
      { s.rcl with
        currentEpoch   := epoch
        highestEpoch   := if isNewer epoch s.rcl.highestEpoch then epoch else s.rcl.highestEpoch
        trainState     := .forming
        roster         := [self]
        previousRoster := match s.rcl.trainState with
          | .forming => s.rcl.previousRoster
          | .none    => []
          | _        => s.rcl.roster.filter fun x => x.side ≠ .self
        duplicateFlag  := false, overflowFlag := false, refusedCount := 0, quietTimer := some 0 } ∧
    v = { s with rcl := v.rcl, portA := v.portA, portB := v.portB, svc.events := v.svc.events } ∧
    (∀ k, k ≠ .queueLoss → v.svc.events.record k = s.svc.events.record k) ∧
    ∀ e : End,
      v.port e = (offerTo e ⟨0, 0, .rollEntry (entry epoch e)⟩
        (offerTo e ⟨0, 0, .rollStart epoch s.svc.config.identity⟩ s)).port e ∧
      ((s.port e).line ≠ .up → v.port e = s.port e) ∧
      ((s.port e).line = .up → (s.port e).sending.isSome = true → (s.port e).notices.length ≤ 6 →
        v.port e = { s.port e with notices := (s.port e).notices ++
          [⟨⟨0, 0, .rollStart epoch s.svc.config.identity⟩, s.now⟩, ⟨⟨0, 0, .rollEntry (entry epoch e)⟩, s.now⟩] })

/-- R52, R53: a trigger during START is dropped; with the hold stopped it starts a roll call and the hold; with the
hold running it is kept, once. TRIGGER_HOLD_EXPIRY starts the kept one with the hold anew, or stops the hold; a stopped
hold does not expire. Choices of the model in it: notes/assumptions/8.md. -/
def Obligations.TriggerHoldKeepsOneTrigger : Prop :=
  ∀ (t : Lapse) (s : State), let u := s.lapse t
    takeTrigger s =
      (if s.svc.startState = .loading then s
      else if s.rcl.triggerHold.isSome then { s with rcl.pendingTrigger := true }
      else startRollCall { s with rcl.triggerHold := some 0 }) ∧
    exec (.triggerHoldExpiry t) s = .next
      (if u.rcl.triggerHold = none then u
      else if u.rcl.pendingTrigger then
        startRollCall { u with rcl.pendingTrigger := false, rcl.triggerHold := some 0 }
      else { u with rcl.triggerHold := none })

/-- R51, R56: a ROLL-START handed to RCL notes its epoch in every state; after START a newer one is entered, with the
kept trigger cleared and the hold running on, the roster set aside, self entered alone, and this station's ROLL-ENTRY
offered to each port for that port (R55), no event but QUEUE-LOSS raised and all else as it was (R69); any other leaves
the rest alone. R57, R58: a ROLL-ENTRY of the current epoch in FORMING restarts the quiet timer and is dealt with: a
known identity sets the duplicate flag, a full roster the overflow flag and the refused count, and any other is stored
at the end with the liveness of the previous roster's entry. In FORMED it is a trigger; in OVERSIZE and CONFLICT it is
ignored; one of a newer epoch enters it and is then dealt with; one of an epoch that is older, or neither, is ignored
in every state. Choices of the model in it: notes/assumptions/23.md, 24.md, 31.md. -/
def Obligations.RollCallFramesAreTakenByEpoch : Prop :=
  (∀ (epoch : Epoch) (s : State), let v := takeRollStart epoch s
    let highest := if isNewer epoch s.rcl.highestEpoch then epoch else s.rcl.highestEpoch
    (s.svc.startState = .done → isNewer epoch s.rcl.currentEpoch = true →
      v = enterEpoch epoch { s with rcl.highestEpoch := highest, rcl.pendingTrigger := false } ∧
      v.rcl =
        { currentEpoch   := epoch
          highestEpoch   := highest
          trainState     := .forming
          roster         := [selfEntry s]
          previousRoster := match s.rcl.trainState with
            | .forming => s.rcl.previousRoster
            | .none    => []
            | _        => s.rcl.roster.filter fun x => x.side ≠ .self
          duplicateFlag  := false, overflowFlag := false, refusedCount := 0, quietTimer := some 0
          triggerHold    := s.rcl.triggerHold
          pendingTrigger := false } ∧
      v = { s with rcl := v.rcl, portA := v.portA, portB := v.portB, svc.events := v.svc.events } ∧
      (∀ k, k ≠ .queueLoss → v.svc.events.record k = s.svc.events.record k) ∧
      ∀ e : End, v.port e = (offerTo e ⟨0, 0, .rollEntry (ownRollEntry epoch e s)⟩ s).port e) ∧
    (s.svc.startState = .loading ∨ isNewer epoch s.rcl.currentEpoch = false →
      v = { s with rcl.highestEpoch := highest })) ∧
  ∀ (e : End) (hop : Byte) (r : RollEntry) (s : State), let v := takeRollEntry e hop r s
    let noted : State := { s with
      rcl.highestEpoch := if isNewer r.epoch s.rcl.highestEpoch then r.epoch else s.rcl.highestEpoch }
    let old := s.rcl.previousRoster.find? fun x => x.identity = r.identity
    (s.svc.startState = .loading → v = noted) ∧
    (s.svc.startState = .done → isNewer r.epoch s.rcl.currentEpoch = true →
      v = takeRollEntry e hop r (enterEpoch r.epoch { noted with rcl.pendingTrigger := false })) ∧
    (isNewer r.epoch s.rcl.currentEpoch = false → r.epoch ≠ s.rcl.currentEpoch → v = noted) ∧
    (s.svc.startState = .done → r.epoch = s.rcl.currentEpoch →
    (s.rcl.trainState = .formed → v = takeTrigger noted) ∧
    (s.rcl.trainState = .oversize ∨ s.rcl.trainState = .conflict → v = noted) ∧
    (s.rcl.trainState = .forming →
      (if s.rcl.roster.any fun x => x.identity = r.identity then
        v = { noted with rcl.quietTimer := some 0, rcl.duplicateFlag := true }
      else if 16 ≤ s.rcl.roster.length then
        v = { noted with rcl.quietTimer := some 0, rcl.overflowFlag := true
                         rcl.refusedCount := min 255 (s.rcl.refusedCount + 1) }
      else
        v = { noted with rcl.quietTimer := some 0, rcl.roster := s.rcl.roster ++
          [{ identity := r.identity, side := .port e, hop := some hop.toNat
             sentFrom := some (if r.flags.getLsbD 1 then .b else .a), ordinal := none, aFacesEnd0 := none
             carLength := r.carLength.toNat, sensorPos := r.sensorPos.toNat, refPos := r.refPos.toNat
             unitNumber := r.unitNumber.toNat, unconfigured := r.flags.getLsbD 0, position := none
             trainDistance := none, lastCarState := old.bind RosterEntry.lastCarState
             lastValid := old.bind RosterEntry.lastValid, invalidCount := (old.map RosterEntry.invalidCount).getD 0 }] })))

/-- QUIET_TIMER_EXPIRY: the roster is judged in the order of R59. A duplicate gives CONFLICT; an overflow or a hop of
15 OVERSIZE; a side whose hops are not 0, 1, 2, … leaves FORMING and is a trigger; else FORMED. A formation discards
the previous roster and raises ROLL-DONE. In FORMED the roster is placed and measured, and the hop-0 entries become the
neighbours, a report being kept where the identity is the same; SRC looks up each bound source in it, keeps the slot
with its new offset where that differs by 100 mm or less and empties it where it differs by more, leaves a missing one,
judges anew, and ends with the full evaluation. Out of FORMED no slot is bound, no source eligible and no neighbour
known; where a slot was bound, the split is set back to rest, a set latch raising SPLIT with cause BINDING, and
SOURCE-CHANGE is raised; all else stays (R59, R60, R88, R89, R161). Choices of the model in it: notes/assumptions/8.md,
16.md. -/
def Obligations.QuietTimerJudgesTheRoster : Prop :=
  (∀ (t : Lapse) (s : State), let u := s.lapse t
    let side (e : End) : List RosterEntry := u.rcl.roster.filter fun x => x.side = .port e
    let complete (e : End) : Bool := decide (∀ k < (side e).length, (side e).any fun x => x.hop == some k)
    let outcome : TrainState :=
      if u.rcl.duplicateFlag then .conflict
      else if u.rcl.overflowFlag || u.rcl.roster.any fun x => x.hop == some 15 then .oversize
      else if complete .a && complete .b then .formed else .forming
    let formed := formedRoster u.svc.config.identity u.rcl.roster
    let hopZero (e : End) : Option Identity :=
      (formed.find? fun x => decide (x.side = .port e) && x.hop == some 0).map RosterEntry.identity
    let succeeds (id : Option Identity) (n : Neighbour) : Neighbour := if id = n.identity then n else ⟨id, none⟩
    (u.rcl.quietTimer = none → exec (.quietTimerExpiry t) s = .next u) ∧
    (u.rcl.quietTimer.isSome = true → outcome = .forming →
      exec (.quietTimerExpiry t) s = .next (takeTrigger { u with rcl.quietTimer := none })) ∧
    (u.rcl.quietTimer.isSome = true → outcome ≠ .forming →
      completes (exec (.quietTimerExpiry t) s) fun s' =>
        s'.rcl = { u.rcl with
          trainState := outcome, previousRoster := [], quietTimer := none
          roster := if outcome = .formed then formed else u.rcl.roster } ∧
        s'.cso.neighbourA = succeeds (if outcome = .formed then hopZero .a else none) u.cso.neighbourA ∧
        s'.cso.neighbourB = succeeds (if outcome = .formed then hopZero .b else none) u.cso.neighbourB ∧
        s'.svc.events.rollDone.pending = true ∧
        s'.svc.events.rollDone.detail =
          some (.rollDone outcome u.rcl.currentEpoch (min 255 (u.rcl.roster.length + u.rcl.refusedCount))) ∧
        s'.svc.events.rollDone = (u.raise (.rollDone outcome u.rcl.currentEpoch
          (min 255 (u.rcl.roster.length + u.rcl.refusedCount)))).svc.events.rollDone ∧
        (outcome = .formed →
          let w := { u with rcl := s'.rcl, svc.events.rollDone := s'.svc.events.rollDone }
          s' = { sourceFormed w with cso.neighbourA := s'.cso.neighbourA, cso.neighbourB := s'.cso.neighbourB }) ∧
        (outcome ≠ .formed →
          s'.src = ⟨none, none, [], [], true⟩ ∧ s'.pvq.queueP = [] ∧ s'.pvq.queueS = [] ∧
          s'.svc.events.sourceChange =
            (if u.src.slotP.isSome || u.src.slotS.isSome then
              u.raise (.sourceChange .formation (slotIdentity u.src.slotP) 0 0)
            else u).svc.events.sourceChange ∧
          let bound := u.src.slotP.isSome || u.src.slotS.isSome
          let w := { u with rcl := s'.rcl, svc.events.rollDone := s'.svc.events.rollDone
                            src := { u.src with eligible := [], ranking := [], headFlag := true } }
          s'.xck = (if bound then { u.xck with splitCounter := 0, splitLatch := false } else u.xck) ∧
          s'.svc.events.split =
            (if bound ∧ u.xck.splitLatch = true then u.raise (.split .clear .binding 0 0 0) else u).svc.events.split ∧
          s' = { endStep .formation (slotIdentity u.src.slotP) ⟨none, none, [], [], bound⟩ w with
            cso.neighbourA := s'.cso.neighbourA, cso.neighbourB := s'.cso.neighbourB }))) ∧
  ∀ (s : State) (x : Slots),
    let moved (b : Source) : Option Int :=
      (s.rcl.roster.find? fun y => y.identity = b.identity).bind (rosterOffset s)
    let kept := reoffsetS s (reoffsetP s ⟨s.src.slotP, s.src.slotS, s.pvq.queueP, s.pvq.queueS, false⟩)
    let v := judgeSources { s with
      src.slotP := kept.p, src.slotS := kept.s, pvq.queueP := kept.queueP, pvq.queueS := kept.queueS }
    let g : Grounds := ⟨decide (s.rcl.trainState = .forming), v.src.eligible, v.src.ranking, s.dmd.lookaheadPoint,
      s.xck.splitLatch⟩
    sourceFormed s = endStep .formation (slotIdentity s.src.slotP)
      (fillSecond g (promoteSecond g (raiseDesired g (loseSecond g (losePrimary g kept))))) v ∧
    (x.p = none → reoffsetP s x = x) ∧ (x.s = none → reoffsetS s x = x) ∧
    (∀ b, x.p = some b → (moved b = none → reoffsetP s x = x) ∧ ∀ d, moved b = some d →
      reoffsetP s x = if |d - b.offset| ≤ 100 then { x with p := some ⟨b.identity, d⟩ }
        else { x with p := none, queueP := [], changed := true }) ∧
    (∀ b, x.s = some b → (moved b = none → reoffsetS s x = x) ∧ ∀ d, moved b = some d →
      reoffsetS s x = if |d - b.offset| ≤ 100 then { x with s := some ⟨b.identity, d⟩ }
        else { x with s := none, queueS := [], changed := true })

/-- R61 to R65: in a complete roster that holds self once, formation places end 0 on the side of the smaller outermost
identity and gives the ordinals 0, 1, 2, … in the roster's order, each station once, with self behind the entries of
the end-0 side; the orientation follows the sent-from end; every position is the car's start, the lengths before it,
with the point counted from the end that faces end 0, and lies within the train when the point lies within its car; and
a train distance is the position less that of self's reference point. An offset is the train distance with the sign of
the direction: a reversal changes it, and with the direction UNKNOWN there is none. -/
def Obligations.FormationOrdersTheTrain : Prop :=
  (∀ (own : Identity) (roster : List RosterEntry), let formed := formedRoster own roster
    let side (e : End) : List RosterEntry := roster.filter fun x => x.side = .port e
    let count (e : End) : Nat := (side e).length
    let complete (e : End) : Bool := decide (∀ k < count e, (side e).any fun x => x.hop == some k)
    let outer (e : End) : Identity :=
      (((side e).find? fun x => x.hop == some (count e - 1)).map RosterEntry.identity).getD own
    let end0 : End := if (outer .a).toNat ≤ (outer .b).toNat then .a else .b
    (roster.filter fun x => x.side = .self).length = 1 →
    complete .a = true → complete .b = true →
    (formed.map RosterEntry.identity).Perm (roster.map RosterEntry.identity) ∧
    formed.map RosterEntry.ordinal = (List.range roster.length).map some ∧
    (∀ x ∈ formed,
      x.ordinal = some (match x.side with
        | .self   => count end0
        | .port e => if e = end0 then count end0 - 1 - x.hop.getD 0 else count end0 + 1 + x.hop.getD 0) ∧
      x.aFacesEnd0 = some (match x.side with
        | .self   => decide (end0 = .a)
        | .port e => decide (x.sentFrom = some (if e = end0 then .b else .a)))) ∧
    (∀ before x after, formed = before ++ x :: after → ∃ p : Int, x.position = some p ∧
      p = (before.map RosterEntry.carLength).sum +
        (let point := if x.side = .self then x.refPos else x.sensorPos
         if x.aFacesEnd0 = some true then (point : Int) else (x.carLength : Int) - point) ∧
      (x.refPos ≤ x.carLength → x.sensorPos ≤ x.carLength →
        0 ≤ p ∧ p ≤ (roster.map RosterEntry.carLength).sum)) ∧
    ∀ x ∈ formed, ∀ y ∈ formed, y.side = .self → x.side ≠ .self →
      ∃ p q : Int, x.position = some p ∧ y.position = some q ∧ x.trainDistance = some (p - q)) ∧
  ∀ (x : RosterEntry) (s : State),
    rosterOffset { s with odo.direction := .towardB } x =
      (rosterOffset { s with odo.direction := .towardA } x).map (fun d => -d) ∧
    rosterOffset { s with odo.direction := .unknown } x = none ∧
    (∀ f d, (s.rcl.roster.find? fun y => y.side = .self).bind RosterEntry.aFacesEnd0 = some f →
      x.trainDistance = some d →
      rosterOffset { s with odo.direction := .towardA } x = some (if f then -d else d))

/-- R67, R68, R70: a CAR-STATE or TRACK-SAMPLE that matches no entry by identity, side and hop leaves every entry as it
was, and in FORMED it is a trigger; one that matches updates the entries it matches and no other, starting no roll
call, and is then judged by SRC (R76). A CAR-STATE writes its time and content, a valid sample its time with the count
of invalid ones back to 0, and an invalid one raises that count up to 3. Choices of the model in it:
notes/assumptions/23.md, 27.md. -/
def Obligations.OnlyMatchingFramesUpdateLiveness : Prop :=
  (∀ (id : Identity) (e : End) (hop : Byte) (f : RosterEntry → RosterEntry) (s : State),
    let v := takeLiveness id e hop f s
    let isMatch (x : RosterEntry) : Bool :=
      decide (x.identity = id) && decide (x.side = .port e) && x.hop == some hop.toNat
    let known := s.rcl.roster.any isMatch || (decide (s.rcl.trainState = .forming) && s.rcl.previousRoster.any isMatch)
    let applied : Rcl := { s.rcl with
      roster := s.rcl.roster.map fun x => if isMatch x then f x else x
      previousRoster :=
        if s.rcl.trainState = .forming then s.rcl.previousRoster.map fun x => if isMatch x then f x else x
        else s.rcl.previousRoster }
    (known = false → v = if s.rcl.trainState = .formed then takeTrigger s else s) ∧
    (known = true →
      v = judgeAtFrame { s with rcl := applied } ∧ v.rcl = applied ∧ v.portA = s.portA ∧ v.portB = s.portB)) ∧
  ∀ (now : Nat) (c : CarStateFrame) (k : TrackSample) (x : RosterEntry), x.invalidCount ≤ 3 →
    applyCarState now c x = { x with lastCarState := some ⟨now, c.mode, c.theta.toInt, c.flags &&& 7⟩ } ∧
    applySample now k x =
      (if k.valid then { x with lastValid := some now, invalidCount := 0 }
      else { x with invalidCount := if x.invalidCount = 3 then 3 else x.invalidCount + 1 })

/-! ## SRC -/

/-- R75: a station ahead is eligible when every condition of the table holds, and only then. In FORMED its place is
that of the roster and its offset that of R65. In FORMING its place is that of the previous roster, its offset that in
use of the slot it is bound in, and its liveness and health are read from the entry of the epoch in progress if it has
been entered, else from the previous roster (R69, R89). In every other state no station is eligible. Choices of the
model in it: notes/assumptions/16.md. -/
def Obligations.EligibleMeansEveryCondition : Prop :=
  ∀ (s : State) (x : RosterEntry),
    let ahead (l : List RosterEntry) : Prop := x ∈ l ∧
      (s.odo.direction = .towardA ∧ x.side = .port .a ∨ s.odo.direction = .towardB ∧ x.side = .port .b)
    let configured (l : List RosterEntry) : Prop := x.unconfigured = false ∧
      ∀ y ∈ l, y.side = x.side → y.hop.getD 0 < x.hop.getD 0 → y.unconfigured = false
    let lively (y : RosterEntry) : Prop :=
      (∃ c, y.lastCarState = some c ∧ s.now - c.time ≤ 1000000 ∧ c.flags.getLsbD 0 = false) ∧
      (∃ time, y.lastValid = some time ∧ s.now - time ≤ 250000) ∧ y.invalidCount < 3
    let bound (slot : Option Source) : Prop := ∃ b, slot = some b ∧ b.identity = x.identity
    let far (slot : Option Source) : Prop := ∃ b, slot = some b ∧ b.identity = x.identity ∧ 30000 ≤ b.offset
    (s.rcl.trainState = .formed →
      (x ∈ eligibleEntries s ↔ s.svc.unconfigured = false ∧ ahead s.rcl.roster ∧
        (∃ d, rosterOffset s x = some d ∧ 30000 ≤ d) ∧ configured s.rcl.roster ∧ lively x)) ∧
    (s.rcl.trainState = .forming →
      (x ∈ eligibleEntries s ↔ s.svc.unconfigured = false ∧ ahead s.rcl.previousRoster ∧
        (far s.src.slotP ∨ ¬bound s.src.slotP ∧ far s.src.slotS) ∧ configured s.rcl.previousRoster ∧
        lively ((s.rcl.roster.find? fun y => y.identity = x.identity).getD x))) ∧
    (s.rcl.trainState ≠ .formed → s.rcl.trainState ≠ .forming → eligibleEntries s = [])

/-- R77: outside FORMING the ranking is the eligible set with its offsets, ordered by offset, largest first, and at one
offset by identity, smallest first; in FORMING the ranking before is kept. -/
def Obligations.RankingOrdersByOffset : Prop :=
  ∀ s : State, let v := judgeSources s
    (s.rcl.trainState = .forming → v.src.ranking = s.src.ranking) ∧
    (s.rcl.trainState ≠ .forming →
      (v.src.ranking.map Source.identity).Perm v.src.eligible ∧
      v.src.ranking.Pairwise (fun x y => y.offset < x.offset ∨
        x.offset = y.offset ∧ x.identity.toNat ≤ y.identity.toNat) ∧
      ∀ b ∈ v.src.ranking, ∃ x ∈ eligibleEntries s, x.identity = b.identity ∧ rosterOffset s x = some b.offset)

/-- R79: S is covering exactly when it is bound, its queue holds an entry, and the head's due distance is not after the
lookahead point; with no lookahead point it is not; and consumption at the point does not change it (in a queue whose
second entry is after the point where its head is). R101: consumption takes heads alone, while the second entry is not
after the point; what is left is the end of the queue, its tail never leaves, and after it no second entry is at or
before the point. -/
def Obligations.CoveringMeansHeadNotAfterPoint : Prop :=
  (∀ (x : Slots) (lp : Distance),
    (covering (some lp) x = true ↔ x.s.isSome = true ∧ ∃ h q, x.queueS = h :: q ∧ isAfter h.due lp = false) ∧
    covering none x = false ∧
    ((∀ h e q, x.queueS = h :: e :: q → isAfter h.due lp = true → isAfter e.due lp = true) →
      covering (some lp) { x with queueS := consume lp x.queueS } = covering (some lp) x) ∧
    ∀ s : State, (groundsOf s).lp = s.dmd.lookaheadPoint) ∧
  ∀ (lp : Distance) (q : List PreviewEntry), let r := consume lp q
    (∃ gone, q = gone ++ r ∧ ∀ i, i + 1 ≤ gone.length → ∀ e, q[i + 1]? = some e → isAfter e.due lp = false) ∧
    r.getLast? = q.getLast? ∧ (∀ h e rest, r = h :: e :: rest → isAfter e.due lp = true)

/-- R81, R82. When P's source is ineligible, an eligible S that covers moves into P with its queue and offset; in every
other case P is emptied, its queue flushed, and S left as it was. Then an ineligible S is emptied and its queue
flushed, so that every source still bound is eligible. -/
def Obligations.IneligibleSourcesLeaveTheSlots : Prop :=
  (∀ (g : Grounds) (x : Slots) (p : Source), x.p = some p →
    (p.identity ∈ g.eligible → losePrimary g x = x) ∧
    (p.identity ∉ g.eligible →
      (∀ b, x.s = some b → b.identity ∈ g.eligible → covering g.lp x = true →
        losePrimary g x =
          { x with p := some b, queueP := x.queueS, s := none, queueS := [], changed := true }) ∧
      ((∀ b, x.s = some b → b.identity ∉ g.eligible ∨ covering g.lp x = false) →
        losePrimary g x = { x with p := none, queueP := [], changed := true }))) ∧
  (∀ (g : Grounds) (x : Slots), x.p = none → losePrimary g x = x) ∧
  ∀ (g : Grounds) (x : Slots),
    (∀ b, x.s = some b → b.identity ∉ g.eligible → loseSecond g x = { x with s := none, queueS := [], changed := true }) ∧
    (∀ b, x.s = some b → b.identity ∈ g.eligible → loseSecond g x = x) ∧
    (x.s = none → loseSecond g x = x) ∧
    ∀ b, (loseSecond g (losePrimary g x)).s = some b ∨ (loseSecond g (losePrimary g x)).p = some b →
      b.identity ∈ g.eligible

/-- R83 to R85. Outside FORMING (R80), a desired primary that is not P's source exchanges places with it from a
covering S while the latch is clear, waits in S otherwise, and is bound into S when it is bound in neither slot; with P
empty or no desired primary nothing changes. With P empty a covering S moves into P with its queue, and one that does
not cover stays. An empty S takes the best-ranked source other than P's, with an empty queue, and stays empty when the
ranking holds no other. -/
def Obligations.SourcesRiseThroughTheSecondSlot : Prop :=
  (∀ (g : Grounds) (x : Slots) (p desired : Source) (rest : List Source),
    g.forming = false → x.p = some p → g.ranking = desired :: rest →
    (p.identity = desired.identity → raiseDesired g x = x) ∧
    (p.identity ≠ desired.identity → ∀ b, x.s = some b → b.identity = desired.identity →
      raiseDesired g x =
        (if covering g.lp x = true ∧ g.latch = false then
          { x with p := some b, s := some p, queueP := x.queueS, queueS := x.queueP, changed := true }
        else x)) ∧
    (p.identity ≠ desired.identity → (∀ b, x.s = some b → b.identity ≠ desired.identity) →
      raiseDesired g x = { x with s := some desired, queueS := [], changed := true })) ∧
  (∀ (g : Grounds) (x : Slots), x.p = none ∨ g.ranking = [] ∨ g.forming = true → raiseDesired g x = x) ∧
  ∀ (g : Grounds) (x : Slots),
    (∀ b, x.p = none → x.s = some b → promoteSecond g x =
      if covering g.lp x then { x with p := some b, queueP := x.queueS, s := none, queueS := [], changed := true }
      else x) ∧
    (x.p.isSome = true ∨ x.s = none → promoteSecond g x = x) ∧
    (x.s.isSome = true ∨ g.forming = true → fillSecond g x = x) ∧
    (x.s = none → g.forming = false → ∀ before b after, g.ranking = before ++ b :: after →
      (∀ c ∈ before, ∃ p, x.p = some p ∧ p.identity = c.identity) → (∀ p, x.p = some p → p.identity ≠ b.identity) →
      fillSecond g x = { x with s := some b, queueS := [], changed := true }) ∧
    ((∀ b ∈ g.ranking, ∃ p, x.p = some p ∧ p.identity = b.identity) → fillSecond g x = x)

/-- R76, R80: a judgement keeps the new eligible set, the ranking and the head flag, which is set when no station lies
ahead (R74). It calls for a full evaluation, R81 to R85 in their order with the cause ELIGIBILITY, when a bound source
has become ineligible or an unbound station eligible; else, at a control expiry, for the promotion check, R83 and R84
and, if a binding changed, R85, with the cause PROMOTION; and in no train state but FORMED and FORMING. R86, R106,
R117: a step that changed a binding writes the slots back with their queues, sets the split back to rest, a set latch
raising SPLIT with cause BINDING, and raises SOURCE-CHANGE with its cause, the identity in P before it, and those in P
and S after it; no other event is raised and all else stays; a step that changed none only writes its offsets back.
Choices of the model in it: notes/assumptions/16.md. -/
def Obligations.BindingChangeIsHandedOnAndReported : Prop :=
  (slotIdentity none = 0 ∧ ∀ b : Source, slotIdentity (some b) = b.identity) ∧
  (∀ s : State, let v := judgeSources s
    let isBound (id : Identity) : Prop :=
      (∃ b, s.src.slotP = some b ∧ b.identity = id) ∨ ∃ b, s.src.slotS = some b ∧ b.identity = id
    let rules : Prop := s.rcl.trainState = .formed ∨ s.rcl.trainState = .forming
    let calls : Prop := (∃ id ∈ s.src.eligible, isBound id ∧ id ∉ v.src.eligible) ∨
      ∃ id ∈ v.src.eligible, ¬isBound id ∧ id ∉ s.src.eligible
    let g : Grounds := ⟨decide (s.rcl.trainState = .forming), v.src.eligible, v.src.ranking, s.dmd.lookaheadPoint,
      s.xck.splitLatch⟩
    let found : Slots := ⟨s.src.slotP, s.src.slotS, s.pvq.queueP, s.pvq.queueS, false⟩
    let full := fillSecond g (promoteSecond g (raiseDesired g (loseSecond g (losePrimary g found))))
    let risen := promoteSecond g (raiseDesired g found)
    let places : List RosterEntry := match s.rcl.trainState with
      | .formed  => s.rcl.roster
      | .forming => s.rcl.previousRoster
      | _        => []
    let ahead := places.filter fun x => decide
      (s.odo.direction = .towardA ∧ x.side = .port .a ∨ s.odo.direction = .towardB ∧ x.side = .port .b)
    v = { s with src := { s.src with
      eligible := (eligibleEntries s).map RosterEntry.identity, ranking := v.src.ranking
      headFlag := decide (ahead = []) } } ∧
    (¬rules → judgeAtFrame s = v ∧ judgeAtExpiry s = v) ∧
    (rules → calls →
      judgeAtFrame s = endStep .eligibility (slotIdentity s.src.slotP) full v ∧
      judgeAtExpiry s = endStep .eligibility (slotIdentity s.src.slotP) full v) ∧
    (rules → ¬calls →
      judgeAtFrame s = v ∧
      judgeAtExpiry s = endStep .promotion (slotIdentity s.src.slotP)
        (if risen.changed then fillSecond g risen else risen) v)) ∧
  ∀ (cause : SourceCause) (before : Identity) (x : Slots) (s : State), let v := endStep cause before x s
    let written : State :=
      { s with src.slotP := x.p, src.slotS := x.s, pvq.queueP := x.queueP, pvq.queueS := x.queueS }
    (x.changed = false → v = written) ∧
    (x.changed = true →
      v.src = written.src ∧ v.pvq = written.pvq ∧
      v.xck = { s.xck with splitCounter := 0, splitLatch := false } ∧
      v.svc.events.sourceChange.pending = true ∧
      v.svc.events.sourceChange.detail = some (.sourceChange cause before (slotIdentity x.p) (slotIdentity x.s)) ∧
      (s.xck.splitLatch = true → v.svc.events.split.detail =
        some (.split .clear .binding 0 (slotIdentity x.p) (slotIdentity x.s))) ∧
      (s.xck.splitLatch = false → v.svc.events.split = s.svc.events.split) ∧
      (let told : State :=
        if s.xck.splitLatch then s.raise (.split .clear .binding 0 (slotIdentity x.p) (slotIdentity x.s)) else s
      v.svc.events =
        (told.raise (.sourceChange cause before (slotIdentity x.p) (slotIdentity x.s))).svc.events) ∧
      v = { s with src := v.src, pvq := v.pvq, xck := v.xck, svc.events := v.svc.events })

/-! ## PVQ -/

/-- R94 to R100: a valid sample of the source bound in a slot is placed at its due distance; it joins an empty queue
whatever its sequence, joins behind a tail that it follows and lies after, with the missing counted and a full queue's
head dropped and reported, and is refused and counted otherwise. An entry that joins is handed to XCK once it stands in
its queue. A sample of no bound source, or an invalid one, does nothing. -/
def Obligations.SampleJoinsItsSourcesQueue : Prop :=
  ∀ (k : TrackSample) (age : Nat) (slot : Slot) (p : Source) (s : State), let v := takeSample k age s
    let correction := s.odo.speed * (age * 10) / 1000000
    let entry : PreviewEntry :=
      { sequence := k.sequence
        due := s.odo.odometer + BitVec.ofInt 32 (p.offset - k.backdate.toNat - correction)
        accel := max (-3000) (min 3000 k.accel.toInt) }
    let q : List PreviewEntry := match slot with
      | .p => s.pvq.queueP
      | .s => s.pvq.queueS
    let c : SlotCounts := match slot with
      | .p => s.pvq.countsP
      | .s => s.pvq.countsS
    let gap := min 65535 (c.gap + ((entry.sequence - (q.getLast?.getD entry).sequence).toNat - 1))
    let isBound : Bool := match slot with
      | .p => s.src.slotP == some p
      | .s => s.src.slotS == some p && !(s.src.slotP.any fun b => b.identity = k.source)
    let put (q' : List PreviewEntry) (c' : SlotCounts) : State := match slot with
      | .p => { s with pvq.queueP := q', pvq.countsP := c' }
      | .s => { s with pvq.queueS := q', pvq.countsS := c' }
    ((∀ b, s.src.slotP = some b ∨ s.src.slotS = some b → b.identity ≠ k.source) ∨ k.valid = false → v = s) ∧
    (isBound = true → p.identity = k.source → k.valid = true →
      (q = [] → v = crossCheck slot entry (put [entry] c)) ∧
      ∀ tail, q.getLast? = some tail →
        let joins := follows entry.sequence tail.sequence && isAfter entry.due tail.due
        (joins = false → v = put q { c with outOfOrder := min 65535 (c.outOfOrder + 1) }) ∧
        (joins = true → q.length < 256 → v = crossCheck slot entry (put (q ++ [entry]) { c with gap := gap })) ∧
        (joins = true → 256 ≤ q.length → v = crossCheck slot entry
          ((put (q.tail ++ [entry]) { c with gap := gap, headDrop := min 65535 (c.headDrop + 1) }).raise
            (.queueLoss (.preview slot)))))

/-- R103, R104: the lookup of a queue at a point is the first case of the table that applies; between two entries a
space of more than 8,000 mm is a HOLE, else the value is a1 + trunc((a2 − a1) × x / D), which lies between a1 and a2,
both included, and is a1 at the first entry. -/
def Obligations.LookupTakesTheFirstCase : Prop :=
  (∀ lp : Distance, lookup lp [] = .beyond) ∧
  (∀ (lp : Distance) (q : List PreviewEntry) (head tail : PreviewEntry), q.head? = some head → q.getLast? = some tail →
    (isBefore lp head.due = true →
      lookup lp q = if distanceDiff head.due lp ≤ 4000 then .covered head.accel else .before) ∧
    (isBefore lp head.due = false → isAtOrAfter lp tail.due = true →
      lookup lp q = if distanceDiff lp tail.due ≤ 4000 then .covered tail.accel else .beyond) ∧
    (isBefore lp head.due = false → isAtOrAfter lp tail.due = false →
      (∀ before d1 d2 after, q = before ++ d1 :: d2 :: after →
        isAtOrAfter lp d1.due = true → isBefore lp d2.due = true →
        (∀ i x y, i + 1 ≤ before.length → q[i]? = some x → q[i + 1]? = some y →
          (isAtOrAfter lp x.due && isBefore lp y.due) = false) →
        lookup lp q = interpolate d1 d2 lp) ∧
      ((∀ i x y, q[i]? = some x → q[i + 1]? = some y → (isAtOrAfter lp x.due && isBefore lp y.due) = false) →
        lookup lp q = .beyond))) ∧
  ∀ (d1 d2 : PreviewEntry) (lp : Distance),
    let space := distanceDiff d2.due d1.due; let x := distanceDiff lp d1.due
    0 ≤ x → x < space →
    (8000 < space → interpolate d1 d2 lp = .hole) ∧
    (space ≤ 8000 → ∃ a, interpolate d1 d2 lp = .covered a ∧ a = d1.accel + ((d2.accel - d1.accel) * x).tdiv space ∧
      min d1.accel d2.accel ≤ a ∧ a ≤ max d1.accel d2.accel ∧ (x = 0 → a = d1.accel))

/-! ## XCK -/

/-- R113 to R115, R134. With a slot empty no comparison is made; with the other queue empty, or its nearest entry more
than 1,000 mm away, the joined entry is counted unmatched; else the pair is judged with an entry than which none is
nearer, the one before taken at the same distance. A disagreeing pair adds 3 to the counter up to 48, an agreeing one
takes 1 down to 0. A clear latch is set at 24 or more, counted, raises SPLIT and takes a car in PREVIEW to HOLD at
once, which raises MODE-CHANGE with cause SPLIT; a set latch is cleared at 0, which raises SPLIT. No other event is
raised, and nothing else changes. -/
def Obligations.JoinedEntriesAreCrossChecked : Prop :=
  (∀ (slot : Slot) (e : PreviewEntry) (s : State), let v := crossCheck slot e s
    let other := match slot with
      | .p => s.pvq.queueS
      | .s => s.pvq.queueP
    let unmatched : State := { s with xck.unmatched := min 65535 (s.xck.unmatched + 1) }
    (s.src.slotP = none ∨ s.src.slotS = none → v = s) ∧
    (s.src.slotP.isSome = true → s.src.slotS.isSome = true →
      ((∀ m ∈ other, 1000 < distanceApart m.due e.due) → v = unmatched) ∧
      ((∃ m ∈ other, distanceApart m.due e.due ≤ 1000) → ∃ m ∈ other,
        (∀ y ∈ other, distanceApart m.due e.due ≤ distanceApart y.due e.due) ∧
        (∀ y ∈ other, distanceApart y.due e.due = distanceApart m.due e.due → isBefore y.due e.due = true →
          isBefore m.due e.due = true) ∧
        v = judgePair e m s))) ∧
  ∀ (x y : PreviewEntry) (s : State), let v := judgePair x y s
    let disagrees := decide ((s.xck.threshold : Int) < |x.accel - y.accel|)
    let counter := if disagrees then min 48 (s.xck.splitCounter + 3) else s.xck.splitCounter - 1
    let sets := decide (s.xck.splitLatch = false ∧ 24 ≤ counter)
    let clears := decide (s.xck.splitLatch = true ∧ counter = 0)
    let detail (c : Change) : Detail :=
      .split c .count counter (slotIdentity s.src.slotP) (slotIdentity s.src.slotS)
    let told : State := if sets then s.raise (detail .set) else if clears then s.raise (detail .clear) else s
    v.xck =
      { s.xck with
        splitCounter  := counter
        splitLatch    := if sets then true else if clears then false else s.xck.splitLatch
        disagreed     := if disagrees then min 65535 (s.xck.disagreed + 1) else s.xck.disagreed
        agreed        := if disagrees then s.xck.agreed else min 65535 (s.xck.agreed + 1)
        latchSettings := if sets then min 65535 (s.xck.latchSettings + 1) else s.xck.latchSettings } ∧
    v.dmd =
      (if sets ∧ s.dmd.mode = .preview then
        { s.dmd with mode := .hold, lastCause := some .split, holdRemainder := 50000, heldDemand := s.dmd.lastDemand }
      else s.dmd) ∧
    (sets = true → v.svc.events.split.pending = true ∧ v.svc.events.split.detail = some (detail .set)) ∧
    (clears = true → v.svc.events.split.pending = true ∧ v.svc.events.split.detail = some (detail .clear)) ∧
    v.svc.events =
      (if sets ∧ s.dmd.mode = .preview then told.raise (.modeChange .preview .hold .split) else told).svc.events ∧
    v = { s with xck := v.xck, dmd := v.dmd, svc.events := v.svc.events }

/-! ## DMD -/

/-- CONTROL_EXPIRY lowers the speed to the decay bound, and in START stops there; after START it works out the
lookahead distance and point with that speed, SRC judges and evaluates, both queues as SRC leaves them are consumed at
the point and P is read there, and the odometer is kept; SNS, TSU, the ports, RCL, CSO and the local inhibit stay, and
so does all of SVC but the event set, which beside what SRC raised takes MODE-CHANGE and ACTUATOR-FAULT alone (R12,
R76, R80, R101, R105, R124, R125). Choices of the model in it: notes/assumptions/2.md. -/
def Obligations.ExpiryReadsAtTheLookaheadPoint : Prop :=
  ∀ (t : Lapse) (s : State), let u := s.lapse t
    let since := u.odo.overflowCount * 65536 + u.odo.captureCounter
    completes (exec (.controlExpiry t) s) fun s' =>
      let far := min 40000 (s'.odo.speed * u.svc.config.lookaheadTime / 1000)
      let point := u.odo.odometer + BitVec.ofNat 32 far
      let judged := judgeAtExpiry
        { u with odo.speed := s'.odo.speed, dmd.lookahead := far, dmd.lookaheadPoint := some point }
      (∀ period v, u.odo.measurement = .timed period v → s'.odo.speed =
        if period < since then min v (u.odo.pulseLength * 15625 / (16 * since)) else v) ∧
      ((∀ period v, u.odo.measurement ≠ .timed period v) → s'.odo.speed = u.odo.speed) ∧
      s'.odo = { u.odo with speed := s'.odo.speed } ∧
      (u.svc.startState = .loading → s' = { u with odo.speed := s'.odo.speed }) ∧
      (u.svc.startState = .done →
        s'.dmd.lookahead = far ∧ s'.dmd.lookaheadPoint = some point ∧ s'.dmd.lastOdometer = u.odo.odometer ∧
        s'.src = judged.src ∧ s'.xck = judged.xck ∧
        s'.pvq = { judged.pvq with
          queueP := consume point judged.pvq.queueP, queueS := consume point judged.pvq.queueS
          lastLookup := some (lookup point s'.pvq.queueP) } ∧
        consume point s'.pvq.queueP = s'.pvq.queueP ∧ consume point s'.pvq.queueS = s'.pvq.queueS ∧
        s'.sns = u.sns ∧ s'.tsu = u.tsu ∧ s'.portA = u.portA ∧ s'.portB = u.portB ∧ s'.rcl = u.rcl ∧ s'.cso = u.cso ∧
        s'.dmd.localInhibit = u.dmd.localInhibit ∧
        (∀ k, k ≠ .modeChange → k ≠ .actuatorFault → s'.svc.events.record k = judged.svc.events.record k) ∧
        s' = { u with odo := s'.odo, src := s'.src, pvq := s'.pvq, xck := s'.xck, dmd := s'.dmd, act := s'.act
                      svc.events := s'.svc.events })

/-- CONTROL_EXPIRY after START: the mode is the first of the judgements of R126 that applies, on the train standing as
R129 leaves it; a change of it keeps its cause, the first that the tables of R128, R132 and R136 give, and raises
MODE-CHANGE with it, no change raises none; an entry into HOLD starts the span with the last demand, a change out of it
ends it, and outside HOLD both stay (R126 to R132, R135, R136). Choices of the model in it: notes/assumptions/20.md. -/
def Obligations.ExpiryChoosesTheFirstJudgement : Prop :=
  ∀ (t : Lapse) (s : State), let u := s.lapse t
    u.svc.startState = .done →
    completes (exec (.controlExpiry t) s) fun s' =>
      let remainder := ((u.dmd.holdRemainder : Int) - distanceDiff u.odo.odometer u.dmd.lastOdometer).toNat
      let upright := u.cso.inhibit ∨ u.dmd.localInhibit ∨ u.cso.orderInhibit ∨ s'.dmd.standing ≠ .formed ∨
        u.odo.direction = .unknown ∨ s'.odo.speed < u.svc.config.switchOff ∨
        (u.dmd.mode = .upright ∧ s'.odo.speed < u.svc.config.switchOn) ∨ u.act.supplyOk = false
      let cause : ModeCause :=
        if u.act.failedLatch then .failedLatch
        else if u.cso.inhibit then .inhibit
        else if u.dmd.localInhibit then .localInhibit
        else if u.cso.orderInhibit then .orderInhibit
        else if s'.dmd.standing ≠ .formed then .train
        else if u.odo.direction = .unknown then .direction
        else if s'.odo.speed < u.svc.config.switchOff ∨
          (u.dmd.mode = .upright ∧ s'.odo.speed < u.svc.config.switchOn) then .speed
        else if u.act.supplyOk = false then .supply
        else match s'.dmd.mode with
          | .preview    => .covered
          | .hold       =>
            if s'.src.slotP = none then .pEmpty
            else if s'.xck.splitLatch then .split
            else if s'.pvq.lastLookup = some .before then .before
            else if s'.pvq.lastLookup = some .hole then .hole else .beyond
          | .localBogie => if u.dmd.mode = .hold then .holdEnded else .noPreview
          | _           => .bogieFault
      let covered : Bool := match s'.pvq.lastLookup with
        | some (.covered _) => true
        | _                 => false
      s'.dmd.standing = (if u.rcl.trainState = .forming then u.dmd.standing else u.rcl.trainState) ∧
      s'.dmd.mode =
        (if u.act.failedLatch then .failed
        else if upright then .upright
        else if s'.src.slotP.isSome = true ∧ s'.xck.splitLatch = false ∧ covered = true then .preview
        else if u.dmd.mode = .preview ∨ (u.dmd.mode = .hold ∧ 0 < remainder) then .hold
        else if u.sns.bogieHealth.fault then .upright else .localBogie) ∧
      (s'.dmd.mode ≠ u.dmd.mode → s'.dmd.lastCause = some cause ∧
        s'.svc.events.modeChange = (u.raise (.modeChange u.dmd.mode s'.dmd.mode cause)).svc.events.modeChange) ∧
      (s'.dmd.mode = u.dmd.mode → s'.dmd.lastCause = u.dmd.lastCause ∧
        s'.svc.events.modeChange = u.svc.events.modeChange) ∧
      (s'.dmd.mode = .hold → u.dmd.mode ≠ .hold →
        s'.dmd.holdRemainder = 50000 ∧ s'.dmd.heldDemand = u.dmd.lastDemand) ∧
      (s'.dmd.mode = .hold → u.dmd.mode = .hold →
        s'.dmd.holdRemainder = remainder ∧ s'.dmd.heldDemand = u.dmd.heldDemand) ∧
      (s'.dmd.mode ≠ .hold → u.dmd.mode = .hold → s'.dmd.holdRemainder = 0) ∧
      (s'.dmd.mode ≠ .hold → u.dmd.mode ≠ .hold → s'.dmd.holdRemainder = u.dmd.holdRemainder) ∧
      (s'.dmd.mode ≠ .hold → s'.dmd.heldDemand = u.dmd.heldDemand)

/-- CONTROL_EXPIRY after START: the demand of the mode, in PREVIEW that of the value which the lookup of this expiry
gave, in LOCAL that of the local value, in HOLD the held one, else 0; the target within the angle limit and the
gangway, and the command one rate step nearer (R138 to R143). -/
def Obligations.ExpiryStepsCommandTowardTarget : Prop :=
  ∀ (t : Lapse) (s : State), let u := s.lapse t
    let conversion (per : Nat) (accel : Int) : Int := ((per : Int) * max (-2000) (min 2000 accel) * 3829).tdiv 65536
    let angleLimit (x : Int) : Int := max (-(u.svc.config.angleLimit : Int)) (min u.svc.config.angleLimit x)
    let step := u.svc.config.tiltRate / 100
    u.svc.startState = .done →
    completes (exec (.controlExpiry t) s) fun s' =>
      (s'.dmd.mode = .preview → ∃ a, s'.pvq.lastLookup = some (.covered a) ∧
        s'.dmd.lastDemand = conversion u.svc.config.compensation a) ∧
      (s'.dmd.mode ≠ .preview → s'.dmd.lastDemand =
        match s'.dmd.mode with
        | .localBogie => conversion u.svc.config.localComp (localValue u.sns.window)
        | .hold       => s'.dmd.heldDemand
        | _           => 0) ∧
      s'.dmd.target =
        (if s'.dmd.mode = .localBogie ∨ s'.dmd.mode = .preview ∨ s'.dmd.mode = .hold then
          angleLimit (gangwayClamp u.svc.config.gangwayLimit (neighbourAngle u .a) (neighbourAngle u .b)
            (angleLimit s'.dmd.lastDemand))
        else 0) ∧
      s'.dmd.command =
        (if (s'.dmd.target - u.dmd.command).natAbs ≤ step then s'.dmd.target
        else if u.dmd.command < s'.dmd.target then u.dmd.command + step
        else u.dmd.command - step)

/-- R143, R148, over the whole machine, whatever the command. But for POWER_ON, which makes it 0, the angle command
changes at CONTROL_EXPIRY alone, and there by no more than the rate step; and the enable line turns on at a
CONTROL_EXPIRY alone. -/
def Obligations.OnlyExpiriesMoveTheCarBody : Prop :=
  ∀ (i : Instr) (s s' : State), exec i s = .next s' →
    (∀ x y, i = .powerOn x y → s'.dmd.command = 0) ∧
    ((∀ x y, i ≠ .powerOn x y) → (s'.dmd.command - s.dmd.command).natAbs ≤ s.svc.config.tiltRate / 100) ∧
    (s'.dmd.command ≠ s.dmd.command → (∃ t, i = .controlExpiry t) ∨ ∃ x y, i = .powerOn x y) ∧
    (s.act.enable = false → s'.act.enable = true → ∃ t, i = .controlExpiry t)

/-- R161, R162: a CAR-STATE from the hop-0 neighbour of the side it arrived on becomes that side's report, and any
other changes nothing; a report serves for 200 ms, after which, or before the first, the neighbour counts as upright; a
side without a neighbour has no angle. R141: with one neighbour the clamped demand lies within G of it; with two not
more than 2 × G apart it lies within G of both; with two farther apart it is the midpoint truncated toward zero; a
demand already within is not changed. -/
def Obligations.GangwayClampHoldsNearNeighbours : Prop :=
  (∀ (e : End) (hop : Byte) (c : CarStateFrame) (later : Nat) (s : State),
    let v := reportNeighbour e hop c s
    let reading : State := { v with now := s.now + later }
    neighbour s .a = s.cso.neighbourA ∧ neighbour s .b = s.cso.neighbourB ∧
    ((neighbour s e).identity = some c.identity → hop = 0 →
      neighbourAngle reading e = some (if later ≤ 200000 then c.theta.toInt else 0) ∧
      neighbour v (otherEnd e) = neighbour s (otherEnd e) ∧
      neighbour v e = ⟨some c.identity, some ⟨s.now, c.theta.toInt⟩⟩ ∧
      v = { s with cso.neighbourA := v.cso.neighbourA, cso.neighbourB := v.cso.neighbourB }) ∧
    ((neighbour s e).identity ≠ some c.identity ∨ hop ≠ 0 → v = s) ∧
    ((neighbour s e).identity = none → neighbourAngle s e = none) ∧
    (∀ id, neighbour s e = ⟨some id, none⟩ → neighbourAngle s e = some 0)) ∧
  ∀ (g : Nat) (demand : Int),
    gangwayClamp g none none demand = demand ∧
    (∀ n : Int, gangwayClamp g (some n) none demand = gangwayClamp g none (some n) demand ∧
      |gangwayClamp g (some n) none demand - n| ≤ g ∧
      (|demand - n| ≤ g → gangwayClamp g (some n) none demand = demand) ∧
      (n + g < demand → gangwayClamp g (some n) none demand = n + g) ∧
      (demand < n - g → gangwayClamp g (some n) none demand = n - g)) ∧
    ∀ m n : Int, let clamped := gangwayClamp g (some m) (some n) demand
      (|m - n| ≤ 2 * g →
        |clamped - m| ≤ g ∧ |clamped - n| ≤ g ∧
        (|demand - m| ≤ g → |demand - n| ≤ g → clamped = demand) ∧
        (min m n + g < demand → clamped = min m n + g) ∧ (demand < max m n - g → clamped = max m n - g)) ∧
      (2 * g < |m - n| → clamped = (m + n).tdiv 2)

/-! ## ACT -/

/-- CONTROL_EXPIRY after START, the hand: the enable line by mode and supply, the duty from the tracking error, the
blanking at a rise, and the monitor that fails the car at the hundredth judged expiry in a row with a large error,
where alone the command raises ACTUATOR-FAULT, with cause TRACKING (R147, R148, R152 to R154). -/
def Obligations.HandDrivesAndMonitors : Prop :=
  ∀ (t : Lapse) (s : State), let u := s.lapse t
    u.svc.startState = .done →
    completes (exec (.controlExpiry t) s) fun s' =>
      let on := u.act.supplyOk = true ∧ s'.dmd.mode ≠ .failed ∧ s'.dmd.mode ≠ .start
      let e := s'.dmd.command - u.sns.lastBody
      let duty := max (-1000) (min 1000 (((u.act.loopGain : Int) * e).tdiv 1000))
      let count := if 1500 < e.natAbs then u.act.trackingCount + 1 else 0
      s'.act =
        (if ¬on then { u.act with enable := false, duty := 0, blanking := 0, trackingCount := 0 }
        else if u.act.enable = false then
          { u.act with enable := true, duty := duty, blanking := 50, trackingCount := 0 }
        else if 1 < u.act.blanking then
          { u.act with duty := duty, blanking := u.act.blanking - 1, trackingCount := 0 }
        else if 100 ≤ count then
          { u.act with enable := false, duty := 0, blanking := 0, trackingCount := 0, failedLatch := true
                       failureCause := some .tracking }
        else { u.act with duty := duty, blanking := 0, trackingCount := count }) ∧
      s'.svc.events.actuatorFault =
        (if on ∧ u.act.enable = true ∧ u.act.blanking ≤ 1 ∧ 100 ≤ count then u.raise (.actuatorFault .tracking false)
        else u).svc.events.actuatorFault

/-- SUPPLY_OK_LINE_CHANGE, INHIBIT_LINE_CHANGE and the expiries of their debounce times: a return to the debounced
level sets the debounce time back; at its end the debounced level takes the raw one, and a condition latch that is not
pending takes it, becomes pending and raises CONDITION-CHANGE, while a pending one keeps its value and raises nothing.
A fall of SUPPLY-OK takes the drive off, and in a tilting mode fails the car with cause SUPPLY and raises
ACTUATOR-FAULT, marked REPEAT when the latch was set; a rise leaves the drive; a change of INHIBIT waits for the next
expiry. No other event is raised (R149 to R151, R154, R163, R174). Choices of the model in it: notes/assumptions/8.md. -/
def Obligations.LinesAreDebounced : Prop :=
  (∀ (t : Lapse) (high : Bool) (s : State), let u := s.lapse t
    let tilting := u.dmd.mode = .localBogie ∨ u.dmd.mode = .preview ∨ u.dmd.mode = .hold
    exec (.supplyOkLineChange t high) s = .next
      { u with
        act.rawSupply    := high
        act.debounceTime := if high = u.act.supplyOk then 0 else u.act.debounceTime } ∧
    (u.act.rawSupply = u.act.supplyOk → exec (.supplyOkDebounceExpiry t) s = .next u) ∧
    (u.act.rawSupply ≠ u.act.supplyOk → completes (exec (.supplyOkDebounceExpiry t) s) fun s' =>
      let settled : Act := { u.act with supplyOk := u.act.rawSupply, debounceTime := 0 }
      let told : State :=
        if u.act.rawSupply = false ∧ tilting then u.raise (.actuatorFault .supply u.act.failedLatch) else u
      s'.act =
        (if u.act.rawSupply = true then settled
        else if tilting ∧ u.act.failedLatch = false then
          { settled with enable := false, duty := 0, blanking := 0, trackingCount := 0, failedLatch := true
                         failureCause := some .supply }
        else { settled with enable := false, duty := 0, blanking := 0, trackingCount := 0 }) ∧
      (u.svc.supplyLatch.pending = false →
        s'.svc.supplyLatch = ⟨u.act.rawSupply, true⟩ ∧ s'.svc.events.conditionChange.pending = true ∧
        s'.svc.events.conditionChange.detail =
          some (.conditionChange .supplyOk u.svc.inhibitLatch.value u.act.rawSupply)) ∧
      (u.svc.supplyLatch.pending = true → s'.svc.supplyLatch = u.svc.supplyLatch) ∧
      s'.svc.events =
        (if u.svc.supplyLatch.pending then told
        else told.raise (.conditionChange .supplyOk u.svc.inhibitLatch.value u.act.rawSupply)).svc.events ∧
      s' = { u with act := s'.act, svc.events := s'.svc.events, svc.supplyLatch := s'.svc.supplyLatch })) ∧
  ∀ (t : Lapse) (active : Bool) (s : State), let u := s.lapse t
    exec (.inhibitLineChange t active) s = .next
      { u with
        cso.rawInhibit   := active
        cso.debounceTime := if active = u.cso.inhibit then 0 else u.cso.debounceTime } ∧
    (u.cso.rawInhibit = u.cso.inhibit → exec (.inhibitDebounceExpiry t) s = .next u) ∧
    (u.cso.rawInhibit ≠ u.cso.inhibit → completes (exec (.inhibitDebounceExpiry t) s) fun s' =>
      (u.svc.inhibitLatch.pending = false →
        s'.svc.inhibitLatch = ⟨u.cso.rawInhibit, true⟩ ∧ s'.svc.events.conditionChange.pending = true ∧
        s'.svc.events.conditionChange.detail =
          some (.conditionChange .inhibit u.cso.rawInhibit u.svc.supplyLatch.value)) ∧
      (u.svc.inhibitLatch.pending = true → s'.svc.inhibitLatch = u.svc.inhibitLatch) ∧
      s'.svc.events =
        (if u.svc.inhibitLatch.pending then u
        else u.raise (.conditionChange .inhibit u.cso.rawInhibit u.svc.supplyLatch.value)).svc.events ∧
      s' = { u with cso.inhibit := u.cso.rawInhibit, cso.debounceTime := 0, svc.events := s'.svc.events
                    svc.inhibitLatch := s'.svc.inhibitLatch })

/-- R154: a cause other than CONFIG sets a clear latch and takes the drive off, or is reported as REPEAT and leaves a
set latch with its cause. RESET_FAILED with an empty payload: refused in START; DONE without a change while the latch
is clear; else refused with the reason of the first condition that fails, changing the answer alone; else the latch and
its cause are cleared, no event raised (R155, R171). -/
def Obligations.FailedLatchIsSetAndReleased : Prop :=
  (∀ (cause : FailureCause) (s : State), let v := failActuator cause s
    v.act =
      (if s.act.failedLatch then s.act
      else { s.act with failedLatch := true, failureCause := some cause, enable := false, duty := 0, blanking := 0
                        trackingCount := 0 }) ∧
    v.svc.events.actuatorFault.pending = true ∧
    v.svc.events.actuatorFault.detail = some (.actuatorFault cause s.act.failedLatch) ∧
    v.svc.events = (s.raise (.actuatorFault cause s.act.failedLatch)).svc.events ∧
    v = { s with act := v.act, svc.events := v.svc.events }) ∧
  ∀ (t : Lapse) (s : State), let u := s.lapse t
    let reason : Option RefusalReason :=
      if u.svc.startState = .loading then some .start
      else if u.act.failedLatch = false then none
      else if u.odo.speed ≠ 0 then some .notStanding
      else if u.act.failureCause = some .config then some .config
      else if u.act.supplyOk = false then some .supply
      else if u.sns.bodyHealth.fault = true then some .bodyFault
      else none
    exec (.resetFailed t []) s = .next
      (match reason with
      | some r => { u with svc.answer := answerBytes 8 [1, refusalCode r] }
      | none =>
        if u.act.failedLatch then
          { u with act.failedLatch := false, act.failureCause := none, svc.answer := answerBytes 8 [0] }
        else { u with svc.answer := answerBytes 8 [0] })

/-! ## CSO -/

/-- CAR_STATE_TIMER_EXPIRY: a CAR-STATE filled from the units as they stand, as every CAR-STATE is (`buildCarState`),
is handed to LNK, and the timer starts from 0; a stopped timer does nothing (R159, R160, R179). Choices of the model in
it: notes/assumptions/8.md, 24.md. -/
def Obligations.CarStateReportsTheUnits : Prop :=
  ∀ (t : Lapse) (s : State), let u := s.lapse t
    let bit (b : Bool) (k : Nat) : Byte := if b then BitVec.ofNat 8 (2 ^ k) else 0
    let frame : CarStateFrame :=
      { identity  := u.svc.config.identity
        mode      := modeCode u.dmd.mode
        direction := directionCode u.odo.direction
        flags     := bit u.sns.bogieHealth.fault 0 ||| bit u.sns.bodyHealth.fault 1 |||
          bit u.act.failedLatch 2 ||| bit u.xck.splitLatch 3
        theta     := BitVec.ofInt 16 u.sns.lastBody
        command   := BitVec.ofInt 16 u.dmd.command
        speed     := BitVec.ofNat 32 u.odo.speed
        pSource   := slotIdentity u.src.slotP }
    buildCarState u = frame ∧
    exec (.carStateTimerExpiry t) s = .next
      (if u.cso.carStateTimer = none then u
      else { originate (.carState frame) u with cso.carStateTimer := some 0 })

/-- SEND_ORDER: malformed values are answered MALFORMED and counted; in START it is refused; else the order goes to LNK
and to this station, and is answered DONE. An order that addresses this station sets or clears the flag and raises
ORDER-RECEIVED; any other changes nothing (R164, R165, R171, R179). Choices of the model in it:
notes/assumptions/11.md, 24.md. -/
def Obligations.OrderIsSentAndAppliedWhereAddressed : Prop :=
  ∀ (t : Lapse) (target code : Byte) (o : TiltOrder) (s : State), let u := s.lapse t
    let order : TiltOrder := { origin := u.svc.config.identity, target := target, action := code }
    let addresses := o.target = 0 ∨ u.cso.unitInUse = some o.target.toNat
    exec (.sendOrder t [target, code]) s = .next
      (if 15 < target.toNat ∨ ¬(code = 1 ∨ code = 2) then
        { u with svc.malformed := min 65535 (u.svc.malformed + 1), svc.answer := answerBytes 7 [2] }
      else if u.svc.startState = .loading then { u with svc.answer := answerBytes 7 [1, 1] }
      else { takeOrder order (originate (.tiltOrder order) u) with svc.answer := answerBytes 7 [0] }) ∧
    (¬(o.action = 1 ∨ o.action = 2) ∨ ¬addresses → takeOrder o u = u) ∧
    (o.action = 1 → addresses → takeOrder o u =
      ({ u with cso.orderInhibit := true }).raise (.orderReceived o.origin o.target.toNat .inhibit)) ∧
    (o.action = 2 → addresses → takeOrder o u =
      ({ u with cso.orderInhibit := false }).raise (.orderReceived o.origin o.target.toNat .release))

/-! ## SVC -/

/-- CONFIG_READ_COMPLETE of a record without a fault, CONFIG_LOAD_RETRY, and both commands of a load that is over: the
record comes into use, each field brought into its range, c before c_local and v_off before v_on; the pulse length is π
× D × 1024 / N rounded half up with π as 3.14159265; the units take their fields, a latch of cause CONFIG is released
as R156 gives, and START ends. A pulse length that differs voids the measurement with speed 0; the same one lets it go
on. Then RCL takes its trigger and CSO hands over its first CAR-STATE, built from the units as they stand, and starts
its timer, in either order, and nothing else changes (R2, R3, R156, R159, R165, R167 to R169). That the two angles are
read as unsigned is the model's choice, notes/assumptions/33.md. Choices of the model in it: notes/assumptions/2.md,
8.md, 12.md, 24.md, 33.md. -/
def Obligations.GoodRecordEndsStart : Prop :=
  ∀ (t : Lapse) (r : RecordBytes) (carStateFirst : Bool) (s : State), let u := s.lapse t
    let clamp (low high n : Nat) : Nat := max low (min high n)
    let length := clamp 10000 40000 r.carLength.toNat
    let stays := u.act.failureCause ≠ some .config
    let read : ConfigRecord :=
      { identity      := r.identity
        wheelDiameter := r.wheelDiameter.toNat
        pulsesPerRev  := r.pulsesPerRev.toNat
        carLength     := r.carLength.toNat
        sensorPos     := r.sensorPos.toNat
        refPos        := r.refPos.toNat
        unitNumber    := some r.unitNumber.toNat
        lookaheadTime := r.lookaheadTime.toNat
        compensation  := r.compensation.toNat
        localComp     := r.localComp.toNat
        switchOff     := r.switchOff.toNat
        switchOn      := r.switchOn.toNat
        angleLimit    := r.angleLimit.toNat
        gangwayLimit  := r.gangwayLimit.toNat
        tiltRate      := r.tiltRate.toNat
        loopGain      := r.loopGain.toNat
        threshold     := r.thresholdTens.toNat * 10 }
    let config : ConfigRecord :=
      { identity      := r.identity
        wheelDiameter := clamp 700 1000 read.wheelDiameter
        pulsesPerRev  := clamp 50 250 read.pulsesPerRev
        carLength     := length
        sensorPos     := clamp 0 length read.sensorPos
        refPos        := clamp 0 length read.refPos
        unitNumber    := some (clamp 1 15 r.unitNumber.toNat)
        lookaheadTime := clamp 0 800 read.lookaheadTime
        compensation  := clamp 0 90 read.compensation
        localComp     := clamp 0 (clamp 0 90 read.compensation) read.localComp
        switchOff     := clamp 5000 40000 read.switchOff
        switchOn      := clamp (clamp 5000 40000 read.switchOff) 50000 read.switchOn
        angleLimit    := clamp 1000 10000 read.angleLimit
        gangwayLimit  := clamp 1000 8000 read.gangwayLimit
        tiltRate      := clamp 500 15000 read.tiltRate
        loopGain      := clamp 50 2000 read.loopGain
        threshold     := clamp 100 1500 read.threshold }
    let dividend := 314159265 * config.wheelDiameter * 1024
    let divisor := 100000000 * config.pulsesPerRev
    let pulseLength := dividend / divisor + if divisor ≤ 2 * (dividend % divisor) then 1 else 0
    let odo : Odo :=
      if pulseLength = u.odo.pulseLength then u.odo
      else { u.odo with
        pulseLength := pulseLength
        measurement := .void, captureCounter := 0, overflowCount := 0, speed := 0 }
    let act : Act :=
      { u.act with
        loopGain     := config.loopGain
        failedLatch  := if stays then u.act.failedLatch else u.act.failedLatch && u.sns.bodyHealth.fault
        failureCause :=
          if stays then u.act.failureCause else if u.sns.bodyHealth.fault then some .sensor else none }
    let loaded : State :=
      { u with
        svc := { u.svc with
          startState := .done, config := config, unconfigured := false, loadFault := none
          clamped := decide (config ≠ read) }
        odo := odo, act := act, xck.threshold := config.threshold, cso.unitInUse := config.unitNumber }
    let report (v : State) : State := { originate (.carState (buildCarState v)) v with cso.carStateTimer := some 0 }
    (u.svc.startState = .done →
      exec (.configReadComplete t r carStateFirst) s = .next u ∧ exec (.configLoadRetry t) s = .next u ∧
      exec (.configLoadTimeout t carStateFirst) s = .next u) ∧
    (u.svc.startState = .loading →
      exec (.configLoadRetry t) s = .next { u with svc.tryTime := 0 } ∧
      (r.check = checkOf (recordCovered r) → r.identity ≠ 0 → r.sensorPos.toNat ≤ length → r.refPos.toNat ≤ length →
        completes (exec (.configReadComplete t r carStateFirst) s) fun s' =>
          s' = (if carStateFirst then takeTrigger (report loaded) else report (takeTrigger loaded)) ∧
          s'.odo = odo ∧ s'.act = act ∧ s'.svc.startState = .done ∧ s'.svc.unconfigured = false ∧
          s'.svc.loadFault = none ∧ s'.svc.config = config ∧ s'.svc.clamped = loaded.svc.clamped ∧
          s'.svc.config.identity = r.identity ∧ s'.svc.config.carLength = length ∧
          s'.svc.config.threshold = max 100 (min 1500 (r.thresholdTens.toNat * 10)) ∧
          s'.odo.pulseLength = pulseLength ∧ s'.xck.threshold = config.threshold ∧
          s'.cso.unitInUse = some (max 1 (min 15 r.unitNumber.toNat)) ∧
          s'.cso.carStateTimer = some 0 ∧ (u.rcl.triggerHold = none → s'.rcl.trainState = .forming)))

/-- CONFIG_LOAD_TIMEOUT, and CONFIG_READ_COMPLETE of a record at fault: every field takes its default, with the
serial's identity, no unit number and the pulse length 29,596, the station is unconfigured, the FAILED latch holds
CONFIG with the drive off, CONFIG-FAULT is raised, and START ends, with RCL's trigger and CSO's first CAR-STATE in
either order; nothing else changes (R2, R3, R154, R159, R165, R167 to R169). Choices of the model in it:
notes/assumptions/2.md, 13.md, 24.md. -/
def Obligations.FailedLoadLeavesTheStationUnconfigured : Prop :=
  ∀ (t : Lapse) (r : RecordBytes) (carStateFirst : Bool) (s : State), let u := s.lapse t
    let length := max 10000 (min 40000 r.carLength.toNat)
    let fault : Option LoadFault :=
      if r.check ≠ checkOf (recordCovered r) then some .badCheck
      else if r.identity = 0 then some .identityZero
      else if length < r.sensorPos.toNat ∨ length < r.refPos.toNat then some .position
      else none
    let config : ConfigRecord :=
      { identity := u.svc.factorySerial.setWidth 32, wheelDiameter := 920, pulsesPerRev := 100, carLength := 26400
        sensorPos := 2500, refPos := 13200, unitNumber := none, lookaheadTime := 350, compensation := 70
        localComp := 45, switchOff := 16700, switchOn := 19500, angleLimit := 8000, gangwayLimit := 4000
        tiltRate := 5000, loopGain := 400, threshold := 400 }
    let odo : Odo :=
      if u.odo.pulseLength = 29596 then u.odo
      else { u.odo with
        pulseLength := 29596
        measurement := .void, captureCounter := 0, overflowCount := 0, speed := 0 }
    let act : Act :=
      { u.act with
        enable := false, duty := 0, blanking := 0, trackingCount := 0, failedLatch := true
        failureCause := some .config, loopGain := 400 }
    let loaded (f : LoadFault) : State :=
      { u with
        svc := { u.svc with
          startState := .done, config := config, unconfigured := true, clamped := false, loadFault := some f
          events := (u.raise (.configFault f)).svc.events }
        odo := odo, act := act, xck.threshold := 400, cso.unitInUse := none }
    let report (v : State) : State := { originate (.carState (buildCarState v)) v with cso.carStateTimer := some 0 }
    let unconfigured (f : LoadFault) (s' : State) : Prop :=
      s' = (if carStateFirst then takeTrigger (report (loaded f)) else report (takeTrigger (loaded f))) ∧
      s'.odo = odo ∧ s'.act = act ∧
      s'.svc.startState = .done ∧ s'.svc.unconfigured = true ∧ s'.svc.clamped = false ∧ s'.svc.loadFault = some f ∧
      s'.svc.config = config ∧
      s'.svc.config.identity = u.svc.factorySerial.setWidth 32 ∧ s'.svc.config.unitNumber = none ∧
      s'.cso.unitInUse = none ∧ s'.cso.carStateTimer = some 0 ∧
      s'.svc.events.configFault.detail = some (.configFault f)
    u.svc.startState = .loading →
      completes (exec (.configLoadTimeout t carStateFirst) s) (unconfigured .noAnswer) ∧
      ∀ f, fault = some f → completes (exec (.configReadComplete t r carStateFirst) s) (unconfigured f)

/-- R170: an unknown request, and a request whose payload is not what its code allows, is answered MALFORMED under its
code as received and counted, and changes nothing else. The four readings and SET_LOCAL_INHIBIT are answered DONE with
their data, built from the state as it stands, and change nothing else, but for the local inhibit that the last sets or
clears; a roster index beyond the entries gives the counts with no entry. The data are the fields in their order, each
in its width: the snapshot, an entry of the roster, the two slots, and the counters (R19, R47, R66, R71, R90, R109,
R110, R121, R128, R171, R178, R180). Choices of the model in it: notes/assumptions/11.md, 14.md, 28.md, 29.md, 32.md. -/
def Obligations.RequestsAreAnswered : Prop :=
  (∀ (t : Lapse) (code : Byte) (payload : List Byte) (check : Check) (s : State), let u := s.lapse t
    let malformed (c : Byte) : Answered :=
      .next { u with svc.malformed := min 65535 (u.svc.malformed + 1), svc.answer := answerBytes c [2] }
    payload.length ≤ 255 →
    (check ≠ checkOf ([code, BitVec.ofNat 8 payload.length] ++ payload) ∨ code.toNat < 1 ∨ 9 < code.toNat →
      exec (.unknownRequest t code payload check) s = malformed code) ∧
    (payload ≠ [] →
      exec (.readStatus t payload) s = malformed 1 ∧ exec (.readSlots t payload) s = malformed 3 ∧
      exec (.readCounters t payload) s = malformed 4 ∧ exec (.fetchEvent t payload) s = malformed 5 ∧
      exec (.resetFailed t payload) s = malformed 8 ∧ exec (.restart t payload) s = malformed 9) ∧
    ((∀ b : Byte, b.toNat ≤ 15 → payload ≠ [b]) → exec (.readRoster t payload) s = malformed 2) ∧
    ((∀ b : Byte, b.toNat ≤ 1 → payload ≠ [b]) → exec (.setLocalInhibit t payload) s = malformed 6) ∧
    (payload.length ≠ 2 → exec (.sendOrder t payload) s = malformed 7)) ∧
  ∀ (t : Lapse) (index value : Byte) (s : State), let u := s.lapse t
    let done (c : Byte) (data : List Byte) (v : State) : State := { v with svc.answer := answerBytes c (0 :: data) }
    let flag (b : Bool) : Byte := if b then 1 else 0
    let elapsed (time : Option Nat) : List Byte := field 2 (match time with
      | some x => min 65534 ((u.now - x) / 1000)
      | none   => 65535)
    let bound (b : Option Source) : List Byte := field 4 (match b with
      | some x => x.identity.toNat
      | none   => 0)
    let due (e : Option PreviewEntry) : List Byte := presence 4 (e.map fun x => field 4 x.due.toNat)
    let slot (b : Option Source) (q : List PreviewEntry) : List Byte :=
      bound b ++ presence 4 (b.map fun x => signedField 4 x.offset) ++ field 2 q.length ++ due q.head? ++ due q.getLast?
    let portCounters (c : PortCounters) : List Nat :=
      [c.accepted, c.truncated, c.formatErrors, c.checkFailures, c.noticeDrops, c.streamDrops, c.staleDrops]
    let entry (x : RosterEntry) : List Byte :=
      field 4 x.identity.toNat ++ [sideCode x.side] ++ presence 1 (x.hop.map (field 1)) ++
      presence 1 (x.sentFrom.map fun e => [endCode e]) ++ presence 1 (x.ordinal.map (field 1)) ++
      presence 1 (x.aFacesEnd0.map fun b => [flag b]) ++
      field 2 x.carLength ++ field 2 x.sensorPos ++ field 2 x.refPos ++ field 1 x.unitNumber ++ [flag x.unconfigured] ++
      presence 4 (x.position.map (signedField 4)) ++ presence 4 (x.trainDistance.map (signedField 4)) ++
      elapsed (x.lastCarState.map CarReport.time) ++
      (match x.lastCarState with
      | some c => [c.mode] ++ signedField 2 c.theta ++ [c.flags]
      | none   => [0, 0, 0, 0]) ++
      elapsed x.lastValid ++ field 1 x.invalidCount
    statusData u =
      field 4 u.svc.config.identity.toNat ++ field 8 u.svc.factorySerial.toNat ++
      [flag u.svc.unconfigured, flag u.svc.clamped] ++ presence 1 (u.svc.loadFault.map fun f => [loadFaultCode f]) ++
      [modeCode u.dmd.mode] ++ presence 1 (u.dmd.lastCause.map fun c => [modeCauseCode c]) ++
      [flag u.act.failedLatch, failureCauseCode u.act.failureCause, flag u.act.enable] ++ signedField 2 u.act.duty ++
      field 4 u.odo.speed ++ field 4 u.odo.odometer.toNat ++ [directionCode u.odo.direction] ++
      signedField 2 u.dmd.command ++ signedField 2 u.sns.lastBody ++ signedField 2 u.sns.lastBogie ++
      [flag u.sns.bogieHealth.fault, flag u.sns.bodyHealth.fault, trainStateCode u.rcl.trainState,
        flag u.src.headFlag] ++ bound u.src.slotP ++ [flag u.xck.splitLatch, lineStateCode u.portA.line,
        flag u.portA.farEnd, lineStateCode u.portB.line, flag u.portB.farEnd, flag u.cso.inhibit, flag u.act.supplyOk,
        flag u.dmd.localInhibit, flag u.cso.orderInhibit, startStateCode u.svc.startState] ∧
    rosterData index.toNat u =
      [u.rcl.currentEpoch, trainStateCode u.rcl.trainState] ++ field 1 u.rcl.roster.length ++
      presence 40 (u.rcl.roster[index.toNat]?.map entry) ∧
    slotsData u =
      slot u.src.slotP u.pvq.queueP ++ slot u.src.slotS u.pvq.queueS ++
      bound u.src.ranking[0]? ++ bound u.src.ranking[1]? ++ [lookupCode u.pvq.lastLookup] ++
      presence 2 (match u.pvq.lastLookup with
        | some (.covered a) => some (signedField 2 a)
        | _                 => none) ++ field 1 u.xck.splitCounter ∧
    counterList u =
      [u.sns.counters.bogie.noReply, u.sns.counters.bogie.checkFailure, u.sns.counters.bogie.wrongAddress,
        u.sns.counters.bogie.faultStatus, u.sns.counters.body.noReply, u.sns.counters.body.checkFailure,
        u.sns.counters.body.wrongAddress, u.sns.counters.body.faultStatus, u.sns.counters.bodyOutOfRange,
        u.sns.counters.bogieClamped] ++ portCounters u.portA.counters ++ portCounters u.portB.counters ++
      [u.pvq.countsP.outOfOrder, u.pvq.countsP.gap, u.pvq.countsP.headDrop, u.pvq.countsS.outOfOrder,
        u.pvq.countsS.gap, u.pvq.countsS.headDrop, u.xck.agreed, u.xck.disagreed, u.xck.unmatched,
        u.xck.latchSettings, u.svc.malformed] ∧
    countersData u = (counterList u).flatMap (field 2) ∧
    exec (.readStatus t []) s = .next (done 1 (statusData u) u) ∧
    exec (.readSlots t []) s = .next (done 3 (slotsData u) u) ∧
    exec (.readCounters t []) s = .next (done 4 (countersData u) u) ∧
    (index.toNat ≤ 15 → exec (.readRoster t [index]) s = .next (done 2 (rosterData index.toNat u) u)) ∧
    (u.rcl.roster.length ≤ index.toNat → rosterData index.toNat u =
      [u.rcl.currentEpoch, trainStateCode u.rcl.trainState, BitVec.ofNat 8 u.rcl.roster.length, 0] ++
        List.replicate 40 0) ∧
    (value.toNat ≤ 1 → exec (.setLocalInhibit t [value]) s =
      .next (done 6 [] { u with dmd.localInhibit := decide (value = 1) })) ∧
    (statusData u).length = 57 ∧ (slotsData u).length = 55 ∧ (countersData u).length = 70 ∧
    (rosterData index.toNat u).length = 44

/-- R172: a raising makes its kind pending; the first sets the count to 1, a later one adds 1 up to 255; the detail is
the latest, but QUEUE-LOSS keeps its first; no other kind and no other part of the state changes; and the notify line
is active exactly while a kind is pending. FETCH_EVENT with an empty payload: the highest pending kind is answered and
its record cleared; with none pending the kind NONE is answered and nothing changes. The answer holds the kind's code,
its count, and 16 bytes: the detail's fields in the order of the rule that raises it, then zeros (R180). After
CONDITION-CHANGE each latch is judged again: one that holds the live level is at rest, one that does not copies it and
raises the kind anew (R173, R174). Choices of the model in it: notes/assumptions/13.md, 15.md, 29.md. -/
def Obligations.EventsAreRaisedAndFetched : Prop :=
  (∀ (d : Detail) (s : State), let v := s.raise d; let old := s.svc.events.record (kindOf d)
    v.svc.events.record (kindOf d) =
      (if old.pending then
        ⟨true, min 255 (old.count + 1), if kindOf d = .queueLoss then old.detail else some d⟩
      else ⟨true, 1, some d⟩) ∧
    (∀ k, k ≠ kindOf d → v.svc.events.record k = s.svc.events.record k) ∧
    v = { s with svc.events := v.svc.events } ∧
    (notifyLine s = true ↔ ∃ k, (s.svc.events.record k).pending = true)) ∧
  (∀ (es : EventSet) (k k' : EventKind) (r : EventRecord),
    kindsByPriority.map es.record =
      [es.actuatorFault, es.sensorFault, es.configFault, es.modeChange, es.split, es.sourceChange, es.rollDone,
        es.portChange, es.conditionChange, es.orderReceived, es.queueLoss] ∧
    kindsByPriority.map kindCode = [1, 2, 3, 4, 5, 6, 7, 8, 9, 10, 11] ∧
    (es.setRecord k r).record k' = if k' = k then r else es.record k') ∧
  (∀ (kind : EventKind) (count : Nat) (pending : Bool) (d : Detail),
    let flag (b : Bool) : Byte := if b then 1 else 0
    let fields : List Byte := match d with
      | .actuatorFault cause repeated => [failureCauseCode (some cause), flag repeated]
      | .sensorFault unit change => [unitCode unit, changeCode change]
      | .configFault load => [failureCauseCode (some .config), loadFaultCode load]
      | .modeChange before after cause => [modeCode before, modeCode after, modeCauseCode cause]
      | .split change cause counter p s =>
        [changeCode change, splitCauseCode cause] ++ field 1 counter ++ field 4 p.toNat ++ field 4 s.toNat
      | .sourceChange cause pBefore pAfter sAfter =>
        [sourceCauseCode cause] ++ field 4 pBefore.toNat ++ field 4 pAfter.toNat ++ field 4 sAfter.toNat
      | .rollDone state epoch count => [trainStateCode state, epoch] ++ field 1 count
      | .portChange port up cause => [endCode port, if up then 2 else 0, portCauseCode cause]
      | .conditionChange line inhibit supplyOk => [conditionLineCode line, flag inhibit, flag supplyOk]
      | .orderReceived origin target action => field 4 origin.toNat ++ field 1 target ++ [actionCode action]
      | .queueLoss place => match place with
        | .notice port  => [1, endCode port]
        | .stream port  => [2, endCode port]
        | .preview slot => [3, slotCode slot]
    eventData kind ⟨pending, count, some d⟩ =
      [kindCode kind] ++ field 1 count ++ fields ++ List.replicate (16 - fields.length) 0 ∧
    eventData kind ⟨pending, count, none⟩ = [kindCode kind] ++ field 1 count ++ List.replicate 16 0) ∧
  ∀ (t : Lapse) (s : State), let u := s.lapse t
    let cleared : State := { u with svc.events := u.svc.events.setRecord .conditionChange ⟨false, 0, none⟩ }
    let first : State :=
      if u.cso.inhibit = u.svc.inhibitLatch.value then cleared
      else cleared.raise (.conditionChange .inhibit u.cso.inhibit u.svc.supplyLatch.value)
    let second : State :=
      if u.act.supplyOk = u.svc.supplyLatch.value then first
      else first.raise (.conditionChange .supplyOk u.cso.inhibit u.act.supplyOk)
    let again := decide (u.cso.inhibit ≠ u.svc.inhibitLatch.value) || decide (u.act.supplyOk ≠ u.svc.supplyLatch.value)
    (notifyLine u = false → exec (.fetchEvent t []) s = .next
      { u with svc.answer := answerBytes 5 (0 :: [0, 0] ++ List.replicate 16 0) }) ∧
    ∀ before kind after, kindsByPriority = before ++ kind :: after →
      (u.svc.events.record kind).pending = true → (∀ k ∈ before, (u.svc.events.record k).pending = false) →
      completes (exec (.fetchEvent t []) s) fun s' =>
        s'.svc.answer = answerBytes 5 (0 :: eventData kind (u.svc.events.record kind)) ∧
        (kind ≠ .conditionChange → s' = { u with
          svc.answer := s'.svc.answer, svc.events := u.svc.events.setRecord kind ⟨false, 0, none⟩ }) ∧
        (kind = .conditionChange →
          s'.svc.inhibitLatch = ⟨u.cso.inhibit, decide (u.cso.inhibit ≠ u.svc.inhibitLatch.value)⟩ ∧
          s'.svc.supplyLatch = ⟨u.act.supplyOk, decide (u.act.supplyOk ≠ u.svc.supplyLatch.value)⟩ ∧
          s'.svc.events.conditionChange.pending = again ∧ s'.svc.events = second.svc.events ∧
          (∀ k, k ≠ .conditionChange → s'.svc.events.record k = u.svc.events.record k) ∧
          s' = { u with svc := { u.svc with answer := s'.svc.answer, events := s'.svc.events
                                            inhibitLatch := s'.svc.inhibitLatch
                                            supplyLatch := s'.svc.supplyLatch } })

/-- RESTART with an empty payload: refused in START, with speed, or with a command, changing the answer alone; else
every unit takes its RESTART values and a load begins, while the ports, the path, the epochs, the FAILED latch, both
debounces and the configuration in use are kept (R15, R32, R49, R73, R91, R112, R123, R146, R158, R166, R175). That
TSU's interval start is kept is the model's choice, since the manual does not name it (R32). Choices of the model in
it: notes/assumptions/11.md, 25.md. -/
def Obligations.RestartKeepsWhatItsUnitsKeep : Prop :=
  ∀ (t : Lapse) (s : State), let u := s.lapse t
    let refused (code : Byte) : Answered := .next { u with svc.answer := answerBytes 9 [1, code] }
    (u.svc.startState = .loading → exec (.restart t []) s = refused 1) ∧
    (u.svc.startState = .done → u.odo.speed ≠ 0 → exec (.restart t []) s = refused 2) ∧
    (u.svc.startState = .done → u.odo.speed = 0 → u.dmd.command ≠ 0 → exec (.restart t []) s = refused 3) ∧
    (u.svc.startState = .done → u.odo.speed = 0 → u.dmd.command = 0 → exec (.restart t []) s = .next
      { u with
        odo := { u.odo with measurement := .void, captureCounter := 0, overflowCount := 0, speed := 0 }
        sns := { u.sns with
          bogieHealth := ⟨false, 0, 0⟩, bodyHealth := ⟨false, 0, 0⟩, window := []
          counters := ⟨⟨0, 0, 0, 0⟩, ⟨0, 0, 0, 0⟩, 0, 0⟩ }
        tsu := { u.tsu with sampling := .idle, intervalSum := 0, intervalCount := 0, sequence := 0 }
        rcl := { currentEpoch := u.rcl.currentEpoch, highestEpoch := u.rcl.highestEpoch, trainState := .none
                 roster := [], previousRoster := [], duplicateFlag := false, overflowFlag := false
                 refusedCount := 0, quietTimer := none, triggerHold := none, pendingTrigger := false }
        src := { slotP := none, slotS := none, eligible := [], ranking := [], headFlag := true }
        pvq := { queueP := [], queueS := [], countsP := ⟨0, 0, 0⟩, countsS := ⟨0, 0, 0⟩, lastLookup := none }
        xck := { splitCounter := 0, splitLatch := false, threshold := u.xck.threshold, agreed := 0, disagreed := 0
                 unmatched := 0, latchSettings := 0 }
        dmd := { mode := .start, lastCause := none, lookahead := 0, lookaheadPoint := none, lastOdometer := 0
                 standing := .none, holdRemainder := 0, heldDemand := 0, lastDemand := 0, target := 0, command := 0
                 localInhibit := false }
        act := { u.act with enable := false, duty := 0, blanking := 0, trackingCount := 0 }
        cso := { u.cso with
          carStateTimer := none, neighbourA := ⟨none, none⟩, neighbourB := ⟨none, none⟩, orderInhibit := false }
        svc := { u.svc with
          startState := .loading, loadTime := 0, tryTime := 0, malformed := 0, answer := answerBytes 9 [0]
          inhibitLatch := ⟨u.cso.inhibit, false⟩, supplyLatch := ⟨u.act.supplyOk, false⟩
          events := ⟨⟨false, 0, none⟩, ⟨false, 0, none⟩, ⟨false, 0, none⟩, ⟨false, 0, none⟩, ⟨false, 0, none⟩,
            ⟨false, 0, none⟩, ⟨false, 0, none⟩, ⟨false, 0, none⟩, ⟨false, 0, none⟩, ⟨false, 0, none⟩,
            ⟨false, 0, none⟩⟩ } })

/-! ## Formats -/

/-- R177 to R180: fields go low byte first, and enumerated values take their codes. The check takes the covered bytes
bit by bit from the least significant into a register of ones, which shifts down and takes 0x8408 where the bits
differ, and is its complement; of the nine characters 1 to 9 it is 0x906E, sent 6E and then 90. A frame is its start
pattern, its kind, hop and age, the body of its kind and the check, with the length of the table; a record's check
covers its 32 bytes as they are laid out; an answer is its start byte, the code, the length, the payload and the check.
Choices of the model in it: notes/assumptions/13.md. -/
def Obligations.FormatsHaveTheirLengthsAndCheck : Prop :=
  checkOf [0x31, 0x32, 0x33, 0x34, 0x35, 0x36, 0x37, 0x38, 0x39] = 0x906E ∧ bytes16 0x906E = [0x6E, 0x90] ∧
  (∀ bytes : List Byte, checkOf bytes = ~~~ bytes.foldl (fun (reg : BitVec 16) b => (List.range 8).foldl
    (fun (r : BitVec 16) k => if b.getLsbD k = r.getLsbD 0 then r >>> 1 else (r >>> 1) ^^^ 0x8408) reg) 0xFFFF) ∧
  (∀ w : BitVec 16, bytes16 w = field 2 w.toNat) ∧
  (∀ f : LinkFrame, (frameBytes f).length =
    match f.body with
    | .rollStart _ _ => 13
    | .rollEntry _   => 21
    | .trackSample _ => 18
    | .carState _    => 27
    | .tiltOrder _   => 14) ∧
  (∀ f : LinkFrame,
    frameBytes f = [0x7E, 0xC1] ++ frameCovered f ++ field 2 (checkOf (frameCovered f)).toNat ∧
    frameCovered f =
      (match f.body with
      | .rollStart _ _ => [1, f.hop]
      | .rollEntry _   => [2, f.hop]
      | .trackSample _ => [3, f.hop]
      | .carState _    => [4, f.hop]
      | .tiltOrder _   => [5, f.hop]) ++ field 2 f.age.toNat ++
      match f.body with
      | .rollStart epoch origin => [epoch] ++ field 4 origin.toNat
      | .rollEntry e => [e.epoch] ++ field 4 e.identity.toNat ++ [e.flags] ++ field 2 e.carLength.toNat ++
        field 2 e.sensorPos.toNat ++ field 2 e.refPos.toNat ++ [e.unitNumber]
      | .trackSample k => field 4 k.source.toNat ++ field 2 k.sequence.toNat ++ field 2 k.accel.toNat ++
        field 2 (k.backdate.toNat + if k.valid then 32768 else 0)
      | .carState c => field 4 c.identity.toNat ++ [c.mode, c.direction, c.flags] ++ field 2 c.theta.toNat ++
        field 2 c.command.toNat ++ field 4 c.speed.toNat ++ field 4 c.pSource.toNat
      | .tiltOrder o => field 4 o.origin.toNat ++ [o.target, o.action]) ∧
  (∀ r : RecordBytes, (recordCovered r).length = 32 ∧ recordCovered r =
    field 4 r.identity.toNat ++ field 2 r.wheelDiameter.toNat ++ [r.pulsesPerRev] ++ field 2 r.carLength.toNat ++
    field 2 r.sensorPos.toNat ++ field 2 r.refPos.toNat ++ [r.unitNumber] ++ field 2 r.lookaheadTime.toNat ++
    [r.reserved, r.compensation, r.localComp] ++ field 2 r.switchOff.toNat ++ field 2 r.switchOn.toNat ++
    field 2 r.angleLimit.toNat ++ field 2 r.gangwayLimit.toNat ++ field 2 r.tiltRate.toNat ++
    field 2 r.loopGain.toNat ++ [r.thresholdTens]) ∧
  (∀ (code : Byte) (payload : List Byte), let covered := [code] ++ field 1 payload.length ++ payload
    answerBytes code payload = [0xC3] ++ covered ++ field 2 (checkOf covered).toNat) ∧
  [TiltMode.start, .upright, .localBogie, .preview, .hold, .failed].map modeCode = [0, 1, 2, 3, 4, 5] ∧
  [Direction.unknown, .towardA, .towardB].map directionCode = [0, 1, 2] ∧
  [TrainState.none, .forming, .formed, .oversize, .conflict].map trainStateCode = [0, 1, 2, 3, 4] ∧
  [LineState.down, .settling, .up].map lineStateCode = [0, 1, 2] ∧
  [none, some FailureCause.sensor, some .supply, some .tracking, some .config].map failureCauseCode = [0, 1, 2, 3, 4] ∧
  (∀ a : Int, [none, some (Lookup.covered a), some .before, some .beyond, some .hole].map lookupCode = [0, 1, 2, 3, 4]) ∧
  [RefusalReason.start, .notStanding, .command, .config, .supply, .bodyFault].map refusalCode = [1, 2, 3, 4, 5, 6] ∧
  [OrderAction.inhibit, .release].map actionCode = [1, 2] ∧
  [ModeCause.failedLatch, .inhibit, .localInhibit, .orderInhibit, .train, .direction, .speed, .supply, .bogieFault,
    .covered, .pEmpty, .split, .before, .beyond, .hole, .holdEnded, .noPreview].map modeCauseCode =
      (List.range 17).map (fun k => BitVec.ofNat 8 (k + 1)) ∧
  [SourceCause.formation, .reversal, .eligibility, .promotion].map sourceCauseCode = [1, 2, 3, 4] ∧
  [SplitCause.count, .binding, .reversal].map splitCauseCode = [1, 2, 3] ∧
  [Change.set, .clear].map changeCode = [1, 2] ∧
  [PortCause.settled, .farEndUp, .signalLoss, .farEndFail].map portCauseCode = [1, 2, 3, 4] ∧
  [LoadFault.noAnswer, .badCheck, .identityZero, .position].map loadFaultCode = [1, 2, 3, 4] ∧
  [End.a, .b].map endCode = [1, 2] ∧ [Slot.p, .s].map slotCode = [1, 2] ∧
  [Side.port .a, .port .b, .self].map sideCode = [1, 2, 3] ∧ [SensorUnit.bogie, .body].map unitCode = [1, 2] ∧
  [ConditionLine.inhibit, .supplyOk].map conditionLineCode = [1, 2] ∧
  [StartState.loading, .done].map startStateCode = [1, 2]
end

