-- ==== Sys2Proof/Laws/State.lean ====
section
/-! SUPPORT. The small lemmas of the two state updates that every unit uses, `raise` and `setPort`. -/

namespace Sys2Proof.Machine

/-! ## Raising an event changes the event set alone -/

@[simp] theorem State.raise_now (d : Detail) (s : State) : (s.raise d).now = s.now := rfl
@[simp] theorem State.raise_odo (d : Detail) (s : State) : (s.raise d).odo = s.odo := rfl
@[simp] theorem State.raise_sns (d : Detail) (s : State) : (s.raise d).sns = s.sns := rfl
@[simp] theorem State.raise_tsu (d : Detail) (s : State) : (s.raise d).tsu = s.tsu := rfl
@[simp] theorem State.raise_portA (d : Detail) (s : State) : (s.raise d).portA = s.portA := rfl
@[simp] theorem State.raise_portB (d : Detail) (s : State) : (s.raise d).portB = s.portB := rfl
@[simp] theorem State.raise_rcl (d : Detail) (s : State) : (s.raise d).rcl = s.rcl := rfl
@[simp] theorem State.raise_src (d : Detail) (s : State) : (s.raise d).src = s.src := rfl
@[simp] theorem State.raise_pvq (d : Detail) (s : State) : (s.raise d).pvq = s.pvq := rfl
@[simp] theorem State.raise_xck (d : Detail) (s : State) : (s.raise d).xck = s.xck := rfl
@[simp] theorem State.raise_dmd (d : Detail) (s : State) : (s.raise d).dmd = s.dmd := rfl
@[simp] theorem State.raise_act (d : Detail) (s : State) : (s.raise d).act = s.act := rfl
@[simp] theorem State.raise_cso (d : Detail) (s : State) : (s.raise d).cso = s.cso := rfl
@[simp] theorem State.raise_pending (d : Detail) (s : State) : (s.raise d).pending = s.pending := rfl

/-- The fields of SVC that a raising leaves. -/
@[simp] theorem State.raise_svc (d : Detail) (s : State) :
    (s.raise d).svc.startState = s.svc.startState ∧ (s.raise d).svc.loadTime = s.svc.loadTime ∧
    (s.raise d).svc.tryTime = s.svc.tryTime ∧ (s.raise d).svc.config = s.svc.config ∧
    (s.raise d).svc.unconfigured = s.svc.unconfigured ∧ (s.raise d).svc.clamped = s.svc.clamped ∧
    (s.raise d).svc.loadFault = s.svc.loadFault ∧ (s.raise d).svc.factorySerial = s.svc.factorySerial ∧
    (s.raise d).svc.inhibitLatch = s.svc.inhibitLatch ∧ (s.raise d).svc.supplyLatch = s.svc.supplyLatch ∧
    (s.raise d).svc.malformed = s.svc.malformed ∧ (s.raise d).svc.answer = s.svc.answer :=
  ⟨rfl, rfl, rfl, rfl, rfl, rfl, rfl, rfl, rfl, rfl, rfl, rfl⟩

@[simp] theorem State.raise_port (d : Detail) (e : End) (s : State) : (s.raise d).port e = s.port e := by
  cases e <;> rfl

/-- The raised kind takes its raised record. -/
@[simp] theorem State.raise_events (d : Detail) (s : State) :
    (s.raise d).svc.events = s.svc.events.setRecord (kindOf d) (raisedRecord d (s.svc.events.record (kindOf d))) := rfl

/-! ## Records of the event set -/

@[simp] theorem EventSet.record_setRecord (es : EventSet) (k : EventKind) (r : EventRecord) :
    (es.setRecord k r).record k = r := by cases k <;> rfl

theorem EventSet.record_setRecord_of_ne (es : EventSet) {k k' : EventKind} (r : EventRecord) (h : k' ≠ k) :
    (es.setRecord k r).record k' = es.record k' := by
  cases k <;> cases k' <;> first | rfl | exact absurd rfl h

/-! ## Another port at an end changes that port alone -/

@[simp] theorem State.port_setPort (s : State) (e : End) (p : Port) : (s.setPort e p).port e = p := by
  cases e <;> rfl

@[simp] theorem State.port_setPort_other (s : State) (e : End) (p : Port) :
    (s.setPort e p).port (otherEnd e) = s.port (otherEnd e) := by cases e <;> rfl

@[simp] theorem otherEnd_otherEnd (e : End) : otherEnd (otherEnd e) = e := by cases e <;> rfl

@[simp] theorem State.setPort_frame (s : State) (e : End) (p : Port) :
    (s.setPort e p).now = s.now ∧ (s.setPort e p).odo = s.odo ∧ (s.setPort e p).sns = s.sns ∧
    (s.setPort e p).tsu = s.tsu ∧ (s.setPort e p).rcl = s.rcl ∧ (s.setPort e p).src = s.src ∧
    (s.setPort e p).pvq = s.pvq ∧ (s.setPort e p).xck = s.xck ∧ (s.setPort e p).dmd = s.dmd ∧
    (s.setPort e p).act = s.act ∧ (s.setPort e p).cso = s.cso ∧ (s.setPort e p).svc = s.svc ∧
    (s.setPort e p).pending = s.pending := by cases e <;> exact ⟨rfl, rfl, rfl, rfl, rfl, rfl, rfl, rfl, rfl, rfl, rfl, rfl, rfl⟩

end Sys2Proof.Machine
end

