-- ==== Sys2Proof/Laws/Frames.lean ====
section
/-! SUPPORT. The frames of the shared operations: for each, the parts of the state that it leaves as they were. -/

namespace Sys2Proof.Machine

@[simp] theorem changeMode_frame (m : TiltMode) (c : ModeCause) (s : State) :
    (changeMode m c s).now = s.now ∧ (changeMode m c s).odo = s.odo ∧ (changeMode m c s).sns = s.sns ∧
    (changeMode m c s).tsu = s.tsu ∧ (changeMode m c s).portA = s.portA ∧ (changeMode m c s).portB = s.portB ∧
    (changeMode m c s).rcl = s.rcl ∧ (changeMode m c s).src = s.src ∧ (changeMode m c s).pvq = s.pvq ∧
    (changeMode m c s).xck = s.xck ∧ (changeMode m c s).dmd.lookahead = s.dmd.lookahead ∧
    (changeMode m c s).dmd.lookaheadPoint = s.dmd.lookaheadPoint ∧
    (changeMode m c s).dmd.lastOdometer = s.dmd.lastOdometer ∧ (changeMode m c s).dmd.standing = s.dmd.standing ∧
    (changeMode m c s).dmd.holdRemainder = s.dmd.holdRemainder ∧
    (changeMode m c s).dmd.heldDemand = s.dmd.heldDemand ∧ (changeMode m c s).dmd.lastDemand = s.dmd.lastDemand ∧
    (changeMode m c s).dmd.target = s.dmd.target ∧ (changeMode m c s).dmd.command = s.dmd.command ∧
    (changeMode m c s).dmd.localInhibit = s.dmd.localInhibit ∧ (changeMode m c s).act = s.act ∧
    (changeMode m c s).cso = s.cso ∧ (changeMode m c s).svc.startState = s.svc.startState ∧
    (changeMode m c s).svc.loadTime = s.svc.loadTime ∧ (changeMode m c s).svc.tryTime = s.svc.tryTime ∧
    (changeMode m c s).svc.config = s.svc.config ∧ (changeMode m c s).svc.unconfigured = s.svc.unconfigured ∧
    (changeMode m c s).svc.clamped = s.svc.clamped ∧ (changeMode m c s).svc.loadFault = s.svc.loadFault ∧
    (changeMode m c s).svc.factorySerial = s.svc.factorySerial ∧
    (changeMode m c s).svc.inhibitLatch = s.svc.inhibitLatch ∧
    (changeMode m c s).svc.supplyLatch = s.svc.supplyLatch ∧ (changeMode m c s).svc.malformed = s.svc.malformed ∧
    (changeMode m c s).svc.answer = s.svc.answer ∧ (changeMode m c s).pending = s.pending :=
  ⟨rfl, rfl, rfl, rfl, rfl, rfl, rfl, rfl, rfl, rfl, rfl, rfl, rfl, rfl, rfl, rfl, rfl, rfl, rfl, rfl, rfl,
   rfl, rfl, rfl, rfl, rfl, rfl, rfl, rfl, rfl, rfl, rfl, rfl, rfl, rfl⟩

@[simp] theorem splitHold_frame (s : State) :
    (splitHold s).now = s.now ∧ (splitHold s).odo = s.odo ∧ (splitHold s).sns = s.sns ∧ (splitHold s).tsu = s.tsu ∧
    (splitHold s).portA = s.portA ∧ (splitHold s).portB = s.portB ∧ (splitHold s).rcl = s.rcl ∧
    (splitHold s).src = s.src ∧ (splitHold s).pvq = s.pvq ∧ (splitHold s).xck = s.xck ∧
    (splitHold s).dmd.lookahead = s.dmd.lookahead ∧ (splitHold s).dmd.lookaheadPoint = s.dmd.lookaheadPoint ∧
    (splitHold s).dmd.lastOdometer = s.dmd.lastOdometer ∧ (splitHold s).dmd.standing = s.dmd.standing ∧
    (splitHold s).dmd.lastDemand = s.dmd.lastDemand ∧ (splitHold s).dmd.target = s.dmd.target ∧
    (splitHold s).dmd.command = s.dmd.command ∧ (splitHold s).dmd.localInhibit = s.dmd.localInhibit ∧
    (splitHold s).act = s.act ∧ (splitHold s).cso = s.cso ∧ (splitHold s).svc.startState = s.svc.startState ∧
    (splitHold s).svc.loadTime = s.svc.loadTime ∧ (splitHold s).svc.tryTime = s.svc.tryTime ∧
    (splitHold s).svc.config = s.svc.config ∧ (splitHold s).svc.unconfigured = s.svc.unconfigured ∧
    (splitHold s).svc.clamped = s.svc.clamped ∧ (splitHold s).svc.loadFault = s.svc.loadFault ∧
    (splitHold s).svc.factorySerial = s.svc.factorySerial ∧ (splitHold s).svc.inhibitLatch = s.svc.inhibitLatch ∧
    (splitHold s).svc.supplyLatch = s.svc.supplyLatch ∧ (splitHold s).svc.malformed = s.svc.malformed ∧
    (splitHold s).svc.answer = s.svc.answer ∧ (splitHold s).pending = s.pending := by
  unfold splitHold
  split <;> simp

@[simp] theorem raiseSplit_frame (c : Change) (k : SplitCause) (s : State) :
    (raiseSplit c k s).now = s.now ∧ (raiseSplit c k s).odo = s.odo ∧ (raiseSplit c k s).sns = s.sns ∧
    (raiseSplit c k s).tsu = s.tsu ∧ (raiseSplit c k s).portA = s.portA ∧ (raiseSplit c k s).portB = s.portB ∧
    (raiseSplit c k s).rcl = s.rcl ∧ (raiseSplit c k s).src = s.src ∧ (raiseSplit c k s).pvq = s.pvq ∧
    (raiseSplit c k s).xck = s.xck ∧ (raiseSplit c k s).dmd = s.dmd ∧ (raiseSplit c k s).act = s.act ∧
    (raiseSplit c k s).cso = s.cso ∧ (raiseSplit c k s).svc.startState = s.svc.startState ∧
    (raiseSplit c k s).svc.loadTime = s.svc.loadTime ∧ (raiseSplit c k s).svc.tryTime = s.svc.tryTime ∧
    (raiseSplit c k s).svc.config = s.svc.config ∧ (raiseSplit c k s).svc.unconfigured = s.svc.unconfigured ∧
    (raiseSplit c k s).svc.clamped = s.svc.clamped ∧ (raiseSplit c k s).svc.loadFault = s.svc.loadFault ∧
    (raiseSplit c k s).svc.factorySerial = s.svc.factorySerial ∧
    (raiseSplit c k s).svc.inhibitLatch = s.svc.inhibitLatch ∧
    (raiseSplit c k s).svc.supplyLatch = s.svc.supplyLatch ∧ (raiseSplit c k s).svc.malformed = s.svc.malformed ∧
    (raiseSplit c k s).svc.answer = s.svc.answer ∧ (raiseSplit c k s).pending = s.pending := by
  simp [raiseSplit]

@[simp] theorem judgeSplit_frame (s : State) :
    (judgeSplit s).now = s.now ∧ (judgeSplit s).odo = s.odo ∧ (judgeSplit s).sns = s.sns ∧
    (judgeSplit s).tsu = s.tsu ∧ (judgeSplit s).portA = s.portA ∧ (judgeSplit s).portB = s.portB ∧
    (judgeSplit s).rcl = s.rcl ∧ (judgeSplit s).src = s.src ∧ (judgeSplit s).pvq = s.pvq ∧
    (judgeSplit s).xck.splitCounter = s.xck.splitCounter ∧ (judgeSplit s).xck.threshold = s.xck.threshold ∧
    (judgeSplit s).xck.agreed = s.xck.agreed ∧ (judgeSplit s).xck.disagreed = s.xck.disagreed ∧
    (judgeSplit s).xck.unmatched = s.xck.unmatched ∧ (judgeSplit s).dmd.lookahead = s.dmd.lookahead ∧
    (judgeSplit s).dmd.lookaheadPoint = s.dmd.lookaheadPoint ∧
    (judgeSplit s).dmd.lastOdometer = s.dmd.lastOdometer ∧ (judgeSplit s).dmd.standing = s.dmd.standing ∧
    (judgeSplit s).dmd.lastDemand = s.dmd.lastDemand ∧ (judgeSplit s).dmd.target = s.dmd.target ∧
    (judgeSplit s).dmd.command = s.dmd.command ∧ (judgeSplit s).dmd.localInhibit = s.dmd.localInhibit ∧
    (judgeSplit s).act = s.act ∧ (judgeSplit s).cso = s.cso ∧ (judgeSplit s).svc.startState = s.svc.startState ∧
    (judgeSplit s).svc.loadTime = s.svc.loadTime ∧ (judgeSplit s).svc.tryTime = s.svc.tryTime ∧
    (judgeSplit s).svc.config = s.svc.config ∧ (judgeSplit s).svc.unconfigured = s.svc.unconfigured ∧
    (judgeSplit s).svc.clamped = s.svc.clamped ∧ (judgeSplit s).svc.loadFault = s.svc.loadFault ∧
    (judgeSplit s).svc.factorySerial = s.svc.factorySerial ∧ (judgeSplit s).svc.inhibitLatch = s.svc.inhibitLatch ∧
    (judgeSplit s).svc.supplyLatch = s.svc.supplyLatch ∧ (judgeSplit s).svc.malformed = s.svc.malformed ∧
    (judgeSplit s).svc.answer = s.svc.answer ∧ (judgeSplit s).pending = s.pending := by
  unfold judgeSplit
  split
  · simp
  · split <;> simp

@[simp] theorem judgePair_frame (x y : PreviewEntry) (s : State) :
    (judgePair x y s).now = s.now ∧ (judgePair x y s).odo = s.odo ∧ (judgePair x y s).sns = s.sns ∧
    (judgePair x y s).tsu = s.tsu ∧ (judgePair x y s).portA = s.portA ∧ (judgePair x y s).portB = s.portB ∧
    (judgePair x y s).rcl = s.rcl ∧ (judgePair x y s).src = s.src ∧ (judgePair x y s).pvq = s.pvq ∧
    (judgePair x y s).xck.threshold = s.xck.threshold ∧ (judgePair x y s).xck.unmatched = s.xck.unmatched ∧
    (judgePair x y s).dmd.lookahead = s.dmd.lookahead ∧
    (judgePair x y s).dmd.lookaheadPoint = s.dmd.lookaheadPoint ∧
    (judgePair x y s).dmd.lastOdometer = s.dmd.lastOdometer ∧ (judgePair x y s).dmd.standing = s.dmd.standing ∧
    (judgePair x y s).dmd.lastDemand = s.dmd.lastDemand ∧ (judgePair x y s).dmd.target = s.dmd.target ∧
    (judgePair x y s).dmd.command = s.dmd.command ∧ (judgePair x y s).dmd.localInhibit = s.dmd.localInhibit ∧
    (judgePair x y s).act = s.act ∧ (judgePair x y s).cso = s.cso ∧
    (judgePair x y s).svc.startState = s.svc.startState ∧ (judgePair x y s).svc.loadTime = s.svc.loadTime ∧
    (judgePair x y s).svc.tryTime = s.svc.tryTime ∧ (judgePair x y s).svc.config = s.svc.config ∧
    (judgePair x y s).svc.unconfigured = s.svc.unconfigured ∧ (judgePair x y s).svc.clamped = s.svc.clamped ∧
    (judgePair x y s).svc.loadFault = s.svc.loadFault ∧ (judgePair x y s).svc.factorySerial = s.svc.factorySerial ∧
    (judgePair x y s).svc.inhibitLatch = s.svc.inhibitLatch ∧
    (judgePair x y s).svc.supplyLatch = s.svc.supplyLatch ∧ (judgePair x y s).svc.malformed = s.svc.malformed ∧
    (judgePair x y s).svc.answer = s.svc.answer ∧ (judgePair x y s).pending = s.pending := by
  unfold judgePair
  split <;> simp

@[simp] theorem crossCheck_frame (k : Slot) (e : PreviewEntry) (s : State) :
    (crossCheck k e s).now = s.now ∧ (crossCheck k e s).odo = s.odo ∧ (crossCheck k e s).sns = s.sns ∧
    (crossCheck k e s).tsu = s.tsu ∧ (crossCheck k e s).portA = s.portA ∧ (crossCheck k e s).portB = s.portB ∧
    (crossCheck k e s).rcl = s.rcl ∧ (crossCheck k e s).src = s.src ∧ (crossCheck k e s).pvq = s.pvq ∧
    (crossCheck k e s).xck.threshold = s.xck.threshold ∧ (crossCheck k e s).dmd.lookahead = s.dmd.lookahead ∧
    (crossCheck k e s).dmd.lookaheadPoint = s.dmd.lookaheadPoint ∧
    (crossCheck k e s).dmd.lastOdometer = s.dmd.lastOdometer ∧ (crossCheck k e s).dmd.standing = s.dmd.standing ∧
    (crossCheck k e s).dmd.lastDemand = s.dmd.lastDemand ∧ (crossCheck k e s).dmd.target = s.dmd.target ∧
    (crossCheck k e s).dmd.command = s.dmd.command ∧ (crossCheck k e s).dmd.localInhibit = s.dmd.localInhibit ∧
    (crossCheck k e s).act = s.act ∧ (crossCheck k e s).cso = s.cso ∧
    (crossCheck k e s).svc.startState = s.svc.startState ∧ (crossCheck k e s).svc.loadTime = s.svc.loadTime ∧
    (crossCheck k e s).svc.tryTime = s.svc.tryTime ∧ (crossCheck k e s).svc.config = s.svc.config ∧
    (crossCheck k e s).svc.unconfigured = s.svc.unconfigured ∧ (crossCheck k e s).svc.clamped = s.svc.clamped ∧
    (crossCheck k e s).svc.loadFault = s.svc.loadFault ∧
    (crossCheck k e s).svc.factorySerial = s.svc.factorySerial ∧
    (crossCheck k e s).svc.inhibitLatch = s.svc.inhibitLatch ∧
    (crossCheck k e s).svc.supplyLatch = s.svc.supplyLatch ∧ (crossCheck k e s).svc.malformed = s.svc.malformed ∧
    (crossCheck k e s).svc.answer = s.svc.answer ∧ (crossCheck k e s).pending = s.pending := by
  unfold crossCheck countUnmatched
  split
  · simp
  · split
    · simp
    · split <;> simp

@[simp] theorem resetSplit_frame (k : SplitCause) (s : State) :
    (resetSplit k s).now = s.now ∧ (resetSplit k s).odo = s.odo ∧ (resetSplit k s).sns = s.sns ∧
    (resetSplit k s).tsu = s.tsu ∧ (resetSplit k s).portA = s.portA ∧ (resetSplit k s).portB = s.portB ∧
    (resetSplit k s).rcl = s.rcl ∧ (resetSplit k s).src = s.src ∧ (resetSplit k s).pvq = s.pvq ∧
    (resetSplit k s).xck.threshold = s.xck.threshold ∧ (resetSplit k s).xck.agreed = s.xck.agreed ∧
    (resetSplit k s).xck.disagreed = s.xck.disagreed ∧ (resetSplit k s).xck.unmatched = s.xck.unmatched ∧
    (resetSplit k s).xck.latchSettings = s.xck.latchSettings ∧ (resetSplit k s).dmd = s.dmd ∧
    (resetSplit k s).act = s.act ∧ (resetSplit k s).cso = s.cso ∧
    (resetSplit k s).svc.startState = s.svc.startState ∧ (resetSplit k s).svc.loadTime = s.svc.loadTime ∧
    (resetSplit k s).svc.tryTime = s.svc.tryTime ∧ (resetSplit k s).svc.config = s.svc.config ∧
    (resetSplit k s).svc.unconfigured = s.svc.unconfigured ∧ (resetSplit k s).svc.clamped = s.svc.clamped ∧
    (resetSplit k s).svc.loadFault = s.svc.loadFault ∧ (resetSplit k s).svc.factorySerial = s.svc.factorySerial ∧
    (resetSplit k s).svc.inhibitLatch = s.svc.inhibitLatch ∧ (resetSplit k s).svc.supplyLatch = s.svc.supplyLatch ∧
    (resetSplit k s).svc.malformed = s.svc.malformed ∧ (resetSplit k s).svc.answer = s.svc.answer ∧
    (resetSplit k s).pending = s.pending := by
  unfold resetSplit
  split <;> simp

@[simp] theorem setSlotQueue_frame (k : Slot) (q : List PreviewEntry) (s : State) :
    (setSlotQueue k q s).now = s.now ∧ (setSlotQueue k q s).odo = s.odo ∧ (setSlotQueue k q s).sns = s.sns ∧
    (setSlotQueue k q s).tsu = s.tsu ∧ (setSlotQueue k q s).portA = s.portA ∧
    (setSlotQueue k q s).portB = s.portB ∧ (setSlotQueue k q s).rcl = s.rcl ∧ (setSlotQueue k q s).src = s.src ∧
    (setSlotQueue k q s).pvq.countsP = s.pvq.countsP ∧ (setSlotQueue k q s).pvq.countsS = s.pvq.countsS ∧
    (setSlotQueue k q s).pvq.lastLookup = s.pvq.lastLookup ∧ (setSlotQueue k q s).xck = s.xck ∧
    (setSlotQueue k q s).dmd = s.dmd ∧ (setSlotQueue k q s).act = s.act ∧ (setSlotQueue k q s).cso = s.cso ∧
    (setSlotQueue k q s).svc = s.svc ∧ (setSlotQueue k q s).pending = s.pending := by
  cases k <;> simp [setSlotQueue]

@[simp] theorem setSlotCounts_frame (k : Slot) (c : SlotCounts) (s : State) :
    (setSlotCounts k c s).now = s.now ∧ (setSlotCounts k c s).odo = s.odo ∧ (setSlotCounts k c s).sns = s.sns ∧
    (setSlotCounts k c s).tsu = s.tsu ∧ (setSlotCounts k c s).portA = s.portA ∧
    (setSlotCounts k c s).portB = s.portB ∧ (setSlotCounts k c s).rcl = s.rcl ∧ (setSlotCounts k c s).src = s.src ∧
    (setSlotCounts k c s).pvq.queueP = s.pvq.queueP ∧ (setSlotCounts k c s).pvq.queueS = s.pvq.queueS ∧
    (setSlotCounts k c s).pvq.lastLookup = s.pvq.lastLookup ∧ (setSlotCounts k c s).xck = s.xck ∧
    (setSlotCounts k c s).dmd = s.dmd ∧ (setSlotCounts k c s).act = s.act ∧ (setSlotCounts k c s).cso = s.cso ∧
    (setSlotCounts k c s).svc = s.svc ∧ (setSlotCounts k c s).pending = s.pending := by
  cases k <;> simp [setSlotCounts]

@[simp] theorem makeRoom_frame (k : Slot) (s : State) :
    (makeRoom k s).now = s.now ∧ (makeRoom k s).odo = s.odo ∧ (makeRoom k s).sns = s.sns ∧
    (makeRoom k s).tsu = s.tsu ∧ (makeRoom k s).portA = s.portA ∧ (makeRoom k s).portB = s.portB ∧
    (makeRoom k s).rcl = s.rcl ∧ (makeRoom k s).src = s.src ∧ (makeRoom k s).pvq.lastLookup = s.pvq.lastLookup ∧
    (makeRoom k s).xck = s.xck ∧ (makeRoom k s).dmd = s.dmd ∧ (makeRoom k s).act = s.act ∧
    (makeRoom k s).cso = s.cso ∧ (makeRoom k s).svc.startState = s.svc.startState ∧
    (makeRoom k s).svc.loadTime = s.svc.loadTime ∧ (makeRoom k s).svc.tryTime = s.svc.tryTime ∧
    (makeRoom k s).svc.config = s.svc.config ∧ (makeRoom k s).svc.unconfigured = s.svc.unconfigured ∧
    (makeRoom k s).svc.clamped = s.svc.clamped ∧ (makeRoom k s).svc.loadFault = s.svc.loadFault ∧
    (makeRoom k s).svc.factorySerial = s.svc.factorySerial ∧ (makeRoom k s).svc.inhibitLatch = s.svc.inhibitLatch ∧
    (makeRoom k s).svc.supplyLatch = s.svc.supplyLatch ∧ (makeRoom k s).svc.malformed = s.svc.malformed ∧
    (makeRoom k s).svc.answer = s.svc.answer ∧ (makeRoom k s).pending = s.pending := by
  unfold makeRoom
  split <;> simp

@[simp] theorem joinEntry_frame (k : Slot) (e : PreviewEntry) (s : State) :
    (joinEntry k e s).now = s.now ∧ (joinEntry k e s).odo = s.odo ∧ (joinEntry k e s).sns = s.sns ∧
    (joinEntry k e s).tsu = s.tsu ∧ (joinEntry k e s).portA = s.portA ∧ (joinEntry k e s).portB = s.portB ∧
    (joinEntry k e s).rcl = s.rcl ∧ (joinEntry k e s).src = s.src ∧ (joinEntry k e s).pvq.countsP = s.pvq.countsP ∧
    (joinEntry k e s).pvq.countsS = s.pvq.countsS ∧ (joinEntry k e s).pvq.lastLookup = s.pvq.lastLookup ∧
    (joinEntry k e s).xck.threshold = s.xck.threshold ∧ (joinEntry k e s).dmd.lookahead = s.dmd.lookahead ∧
    (joinEntry k e s).dmd.lookaheadPoint = s.dmd.lookaheadPoint ∧
    (joinEntry k e s).dmd.lastOdometer = s.dmd.lastOdometer ∧ (joinEntry k e s).dmd.standing = s.dmd.standing ∧
    (joinEntry k e s).dmd.lastDemand = s.dmd.lastDemand ∧ (joinEntry k e s).dmd.target = s.dmd.target ∧
    (joinEntry k e s).dmd.command = s.dmd.command ∧ (joinEntry k e s).dmd.localInhibit = s.dmd.localInhibit ∧
    (joinEntry k e s).act = s.act ∧ (joinEntry k e s).cso = s.cso ∧
    (joinEntry k e s).svc.startState = s.svc.startState ∧ (joinEntry k e s).svc.loadTime = s.svc.loadTime ∧
    (joinEntry k e s).svc.tryTime = s.svc.tryTime ∧ (joinEntry k e s).svc.config = s.svc.config ∧
    (joinEntry k e s).svc.unconfigured = s.svc.unconfigured ∧ (joinEntry k e s).svc.clamped = s.svc.clamped ∧
    (joinEntry k e s).svc.loadFault = s.svc.loadFault ∧ (joinEntry k e s).svc.factorySerial = s.svc.factorySerial ∧
    (joinEntry k e s).svc.inhibitLatch = s.svc.inhibitLatch ∧
    (joinEntry k e s).svc.supplyLatch = s.svc.supplyLatch ∧ (joinEntry k e s).svc.malformed = s.svc.malformed ∧
    (joinEntry k e s).svc.answer = s.svc.answer ∧ (joinEntry k e s).pending = s.pending := by
  simp [joinEntry]

@[simp] theorem takeSample_frame (t : TrackSample) (n : Nat) (s : State) :
    (takeSample t n s).now = s.now ∧ (takeSample t n s).odo = s.odo ∧ (takeSample t n s).sns = s.sns ∧
    (takeSample t n s).tsu = s.tsu ∧ (takeSample t n s).portA = s.portA ∧ (takeSample t n s).portB = s.portB ∧
    (takeSample t n s).rcl = s.rcl ∧ (takeSample t n s).src = s.src ∧
    (takeSample t n s).pvq.lastLookup = s.pvq.lastLookup ∧ (takeSample t n s).xck.threshold = s.xck.threshold ∧
    (takeSample t n s).dmd.lookahead = s.dmd.lookahead ∧
    (takeSample t n s).dmd.lookaheadPoint = s.dmd.lookaheadPoint ∧
    (takeSample t n s).dmd.lastOdometer = s.dmd.lastOdometer ∧ (takeSample t n s).dmd.standing = s.dmd.standing ∧
    (takeSample t n s).dmd.lastDemand = s.dmd.lastDemand ∧ (takeSample t n s).dmd.target = s.dmd.target ∧
    (takeSample t n s).dmd.command = s.dmd.command ∧ (takeSample t n s).dmd.localInhibit = s.dmd.localInhibit ∧
    (takeSample t n s).act = s.act ∧ (takeSample t n s).cso = s.cso ∧
    (takeSample t n s).svc.startState = s.svc.startState ∧ (takeSample t n s).svc.loadTime = s.svc.loadTime ∧
    (takeSample t n s).svc.tryTime = s.svc.tryTime ∧ (takeSample t n s).svc.config = s.svc.config ∧
    (takeSample t n s).svc.unconfigured = s.svc.unconfigured ∧ (takeSample t n s).svc.clamped = s.svc.clamped ∧
    (takeSample t n s).svc.loadFault = s.svc.loadFault ∧
    (takeSample t n s).svc.factorySerial = s.svc.factorySerial ∧
    (takeSample t n s).svc.inhibitLatch = s.svc.inhibitLatch ∧
    (takeSample t n s).svc.supplyLatch = s.svc.supplyLatch ∧ (takeSample t n s).svc.malformed = s.svc.malformed ∧
    (takeSample t n s).svc.answer = s.svc.answer ∧ (takeSample t n s).pending = s.pending := by
  unfold takeSample joinOrRefuse
  split
  · simp
  · split
    · split
      · simp
      · split <;> simp [countGap, countOutOfOrder]
    · simp

@[simp] theorem judgeSources_frame (s : State) :
    (judgeSources s).now = s.now ∧ (judgeSources s).odo = s.odo ∧ (judgeSources s).sns = s.sns ∧
    (judgeSources s).tsu = s.tsu ∧ (judgeSources s).portA = s.portA ∧ (judgeSources s).portB = s.portB ∧
    (judgeSources s).rcl = s.rcl ∧ (judgeSources s).src.slotP = s.src.slotP ∧
    (judgeSources s).src.slotS = s.src.slotS ∧ (judgeSources s).pvq = s.pvq ∧ (judgeSources s).xck = s.xck ∧
    (judgeSources s).dmd = s.dmd ∧ (judgeSources s).act = s.act ∧ (judgeSources s).cso = s.cso ∧
    (judgeSources s).svc = s.svc ∧ (judgeSources s).pending = s.pending :=
  ⟨rfl, rfl, rfl, rfl, rfl, rfl, rfl, rfl, rfl, rfl, rfl, rfl, rfl, rfl, rfl, rfl⟩

@[simp] theorem putSlots_frame (x : Slots) (s : State) :
    (putSlots x s).now = s.now ∧ (putSlots x s).odo = s.odo ∧ (putSlots x s).sns = s.sns ∧
    (putSlots x s).tsu = s.tsu ∧ (putSlots x s).portA = s.portA ∧ (putSlots x s).portB = s.portB ∧
    (putSlots x s).rcl = s.rcl ∧ (putSlots x s).src.eligible = s.src.eligible ∧
    (putSlots x s).src.ranking = s.src.ranking ∧ (putSlots x s).src.headFlag = s.src.headFlag ∧
    (putSlots x s).pvq.countsP = s.pvq.countsP ∧ (putSlots x s).pvq.countsS = s.pvq.countsS ∧
    (putSlots x s).pvq.lastLookup = s.pvq.lastLookup ∧ (putSlots x s).xck = s.xck ∧ (putSlots x s).dmd = s.dmd ∧
    (putSlots x s).act = s.act ∧ (putSlots x s).cso = s.cso ∧ (putSlots x s).svc = s.svc ∧
    (putSlots x s).pending = s.pending :=
  ⟨rfl, rfl, rfl, rfl, rfl, rfl, rfl, rfl, rfl, rfl, rfl, rfl, rfl, rfl, rfl, rfl, rfl, rfl, rfl⟩

@[simp] theorem endStep_frame (c : SourceCause) (i : Identity) (x : Slots) (s : State) :
    (endStep c i x s).now = s.now ∧ (endStep c i x s).odo = s.odo ∧ (endStep c i x s).sns = s.sns ∧
    (endStep c i x s).tsu = s.tsu ∧ (endStep c i x s).portA = s.portA ∧ (endStep c i x s).portB = s.portB ∧
    (endStep c i x s).rcl = s.rcl ∧ (endStep c i x s).src.eligible = s.src.eligible ∧
    (endStep c i x s).src.ranking = s.src.ranking ∧ (endStep c i x s).src.headFlag = s.src.headFlag ∧
    (endStep c i x s).pvq.countsP = s.pvq.countsP ∧ (endStep c i x s).pvq.countsS = s.pvq.countsS ∧
    (endStep c i x s).pvq.lastLookup = s.pvq.lastLookup ∧ (endStep c i x s).xck.threshold = s.xck.threshold ∧
    (endStep c i x s).xck.agreed = s.xck.agreed ∧ (endStep c i x s).xck.disagreed = s.xck.disagreed ∧
    (endStep c i x s).xck.unmatched = s.xck.unmatched ∧ (endStep c i x s).xck.latchSettings = s.xck.latchSettings ∧
    (endStep c i x s).dmd = s.dmd ∧ (endStep c i x s).act = s.act ∧ (endStep c i x s).cso = s.cso ∧
    (endStep c i x s).svc.startState = s.svc.startState ∧ (endStep c i x s).svc.loadTime = s.svc.loadTime ∧
    (endStep c i x s).svc.tryTime = s.svc.tryTime ∧ (endStep c i x s).svc.config = s.svc.config ∧
    (endStep c i x s).svc.unconfigured = s.svc.unconfigured ∧ (endStep c i x s).svc.clamped = s.svc.clamped ∧
    (endStep c i x s).svc.loadFault = s.svc.loadFault ∧ (endStep c i x s).svc.factorySerial = s.svc.factorySerial ∧
    (endStep c i x s).svc.inhibitLatch = s.svc.inhibitLatch ∧
    (endStep c i x s).svc.supplyLatch = s.svc.supplyLatch ∧ (endStep c i x s).svc.malformed = s.svc.malformed ∧
    (endStep c i x s).svc.answer = s.svc.answer ∧ (endStep c i x s).pending = s.pending := by
  unfold endStep raiseSourceChange
  split <;> simp

@[simp] theorem judgeAtFrame_frame (s : State) :
    (judgeAtFrame s).now = s.now ∧ (judgeAtFrame s).odo = s.odo ∧ (judgeAtFrame s).sns = s.sns ∧
    (judgeAtFrame s).tsu = s.tsu ∧ (judgeAtFrame s).portA = s.portA ∧ (judgeAtFrame s).portB = s.portB ∧
    (judgeAtFrame s).rcl = s.rcl ∧ (judgeAtFrame s).pvq.countsP = s.pvq.countsP ∧
    (judgeAtFrame s).pvq.countsS = s.pvq.countsS ∧ (judgeAtFrame s).pvq.lastLookup = s.pvq.lastLookup ∧
    (judgeAtFrame s).xck.threshold = s.xck.threshold ∧ (judgeAtFrame s).xck.agreed = s.xck.agreed ∧
    (judgeAtFrame s).xck.disagreed = s.xck.disagreed ∧ (judgeAtFrame s).xck.unmatched = s.xck.unmatched ∧
    (judgeAtFrame s).xck.latchSettings = s.xck.latchSettings ∧ (judgeAtFrame s).dmd = s.dmd ∧
    (judgeAtFrame s).act = s.act ∧ (judgeAtFrame s).cso = s.cso ∧
    (judgeAtFrame s).svc.startState = s.svc.startState ∧ (judgeAtFrame s).svc.loadTime = s.svc.loadTime ∧
    (judgeAtFrame s).svc.tryTime = s.svc.tryTime ∧ (judgeAtFrame s).svc.config = s.svc.config ∧
    (judgeAtFrame s).svc.unconfigured = s.svc.unconfigured ∧ (judgeAtFrame s).svc.clamped = s.svc.clamped ∧
    (judgeAtFrame s).svc.loadFault = s.svc.loadFault ∧ (judgeAtFrame s).svc.factorySerial = s.svc.factorySerial ∧
    (judgeAtFrame s).svc.inhibitLatch = s.svc.inhibitLatch ∧ (judgeAtFrame s).svc.supplyLatch = s.svc.supplyLatch ∧
    (judgeAtFrame s).svc.malformed = s.svc.malformed ∧ (judgeAtFrame s).svc.answer = s.svc.answer ∧
    (judgeAtFrame s).pending = s.pending := by
  unfold judgeAtFrame
  dsimp only
  split <;> simp

@[simp] theorem judgeAtExpiry_frame (s : State) :
    (judgeAtExpiry s).now = s.now ∧ (judgeAtExpiry s).odo = s.odo ∧ (judgeAtExpiry s).sns = s.sns ∧
    (judgeAtExpiry s).tsu = s.tsu ∧ (judgeAtExpiry s).portA = s.portA ∧ (judgeAtExpiry s).portB = s.portB ∧
    (judgeAtExpiry s).rcl = s.rcl ∧ (judgeAtExpiry s).pvq.countsP = s.pvq.countsP ∧
    (judgeAtExpiry s).pvq.countsS = s.pvq.countsS ∧ (judgeAtExpiry s).pvq.lastLookup = s.pvq.lastLookup ∧
    (judgeAtExpiry s).xck.threshold = s.xck.threshold ∧ (judgeAtExpiry s).xck.agreed = s.xck.agreed ∧
    (judgeAtExpiry s).xck.disagreed = s.xck.disagreed ∧ (judgeAtExpiry s).xck.unmatched = s.xck.unmatched ∧
    (judgeAtExpiry s).xck.latchSettings = s.xck.latchSettings ∧ (judgeAtExpiry s).dmd = s.dmd ∧
    (judgeAtExpiry s).act = s.act ∧ (judgeAtExpiry s).cso = s.cso ∧
    (judgeAtExpiry s).svc.startState = s.svc.startState ∧ (judgeAtExpiry s).svc.loadTime = s.svc.loadTime ∧
    (judgeAtExpiry s).svc.tryTime = s.svc.tryTime ∧ (judgeAtExpiry s).svc.config = s.svc.config ∧
    (judgeAtExpiry s).svc.unconfigured = s.svc.unconfigured ∧ (judgeAtExpiry s).svc.clamped = s.svc.clamped ∧
    (judgeAtExpiry s).svc.loadFault = s.svc.loadFault ∧ (judgeAtExpiry s).svc.factorySerial = s.svc.factorySerial ∧
    (judgeAtExpiry s).svc.inhibitLatch = s.svc.inhibitLatch ∧
    (judgeAtExpiry s).svc.supplyLatch = s.svc.supplyLatch ∧ (judgeAtExpiry s).svc.malformed = s.svc.malformed ∧
    (judgeAtExpiry s).svc.answer = s.svc.answer ∧ (judgeAtExpiry s).pending = s.pending := by
  unfold judgeAtExpiry
  dsimp only
  split
  · simp
  · split <;> simp

@[simp] theorem sourceReversal_frame (s : State) :
    (sourceReversal s).now = s.now ∧ (sourceReversal s).odo = s.odo ∧ (sourceReversal s).sns = s.sns ∧
    (sourceReversal s).tsu = s.tsu ∧ (sourceReversal s).portA = s.portA ∧ (sourceReversal s).portB = s.portB ∧
    (sourceReversal s).rcl = s.rcl ∧ (sourceReversal s).pvq.countsP = s.pvq.countsP ∧
    (sourceReversal s).pvq.countsS = s.pvq.countsS ∧ (sourceReversal s).pvq.lastLookup = s.pvq.lastLookup ∧
    (sourceReversal s).xck.threshold = s.xck.threshold ∧ (sourceReversal s).xck.agreed = s.xck.agreed ∧
    (sourceReversal s).xck.disagreed = s.xck.disagreed ∧ (sourceReversal s).xck.unmatched = s.xck.unmatched ∧
    (sourceReversal s).xck.latchSettings = s.xck.latchSettings ∧ (sourceReversal s).dmd = s.dmd ∧
    (sourceReversal s).act = s.act ∧ (sourceReversal s).cso = s.cso ∧
    (sourceReversal s).svc.startState = s.svc.startState ∧ (sourceReversal s).svc.loadTime = s.svc.loadTime ∧
    (sourceReversal s).svc.tryTime = s.svc.tryTime ∧ (sourceReversal s).svc.config = s.svc.config ∧
    (sourceReversal s).svc.unconfigured = s.svc.unconfigured ∧ (sourceReversal s).svc.clamped = s.svc.clamped ∧
    (sourceReversal s).svc.loadFault = s.svc.loadFault ∧
    (sourceReversal s).svc.factorySerial = s.svc.factorySerial ∧
    (sourceReversal s).svc.inhibitLatch = s.svc.inhibitLatch ∧
    (sourceReversal s).svc.supplyLatch = s.svc.supplyLatch ∧ (sourceReversal s).svc.malformed = s.svc.malformed ∧
    (sourceReversal s).svc.answer = s.svc.answer ∧ (sourceReversal s).pending = s.pending := by
  simp [sourceReversal]

@[simp] theorem sourceFormed_frame (s : State) :
    (sourceFormed s).now = s.now ∧ (sourceFormed s).odo = s.odo ∧ (sourceFormed s).sns = s.sns ∧
    (sourceFormed s).tsu = s.tsu ∧ (sourceFormed s).portA = s.portA ∧ (sourceFormed s).portB = s.portB ∧
    (sourceFormed s).rcl = s.rcl ∧ (sourceFormed s).pvq.countsP = s.pvq.countsP ∧
    (sourceFormed s).pvq.countsS = s.pvq.countsS ∧ (sourceFormed s).pvq.lastLookup = s.pvq.lastLookup ∧
    (sourceFormed s).xck.threshold = s.xck.threshold ∧ (sourceFormed s).xck.agreed = s.xck.agreed ∧
    (sourceFormed s).xck.disagreed = s.xck.disagreed ∧ (sourceFormed s).xck.unmatched = s.xck.unmatched ∧
    (sourceFormed s).xck.latchSettings = s.xck.latchSettings ∧ (sourceFormed s).dmd = s.dmd ∧
    (sourceFormed s).act = s.act ∧ (sourceFormed s).cso = s.cso ∧
    (sourceFormed s).svc.startState = s.svc.startState ∧ (sourceFormed s).svc.loadTime = s.svc.loadTime ∧
    (sourceFormed s).svc.tryTime = s.svc.tryTime ∧ (sourceFormed s).svc.config = s.svc.config ∧
    (sourceFormed s).svc.unconfigured = s.svc.unconfigured ∧ (sourceFormed s).svc.clamped = s.svc.clamped ∧
    (sourceFormed s).svc.loadFault = s.svc.loadFault ∧ (sourceFormed s).svc.factorySerial = s.svc.factorySerial ∧
    (sourceFormed s).svc.inhibitLatch = s.svc.inhibitLatch ∧ (sourceFormed s).svc.supplyLatch = s.svc.supplyLatch ∧
    (sourceFormed s).svc.malformed = s.svc.malformed ∧ (sourceFormed s).svc.answer = s.svc.answer ∧
    (sourceFormed s).pending = s.pending := by
  simp [sourceFormed]

@[simp] theorem sourceNotFormed_frame (s : State) :
    (sourceNotFormed s).now = s.now ∧ (sourceNotFormed s).odo = s.odo ∧ (sourceNotFormed s).sns = s.sns ∧
    (sourceNotFormed s).tsu = s.tsu ∧ (sourceNotFormed s).portA = s.portA ∧ (sourceNotFormed s).portB = s.portB ∧
    (sourceNotFormed s).rcl = s.rcl ∧ (sourceNotFormed s).pvq.countsP = s.pvq.countsP ∧
    (sourceNotFormed s).pvq.countsS = s.pvq.countsS ∧ (sourceNotFormed s).pvq.lastLookup = s.pvq.lastLookup ∧
    (sourceNotFormed s).xck.threshold = s.xck.threshold ∧ (sourceNotFormed s).xck.agreed = s.xck.agreed ∧
    (sourceNotFormed s).xck.disagreed = s.xck.disagreed ∧ (sourceNotFormed s).xck.unmatched = s.xck.unmatched ∧
    (sourceNotFormed s).xck.latchSettings = s.xck.latchSettings ∧ (sourceNotFormed s).dmd = s.dmd ∧
    (sourceNotFormed s).act = s.act ∧ (sourceNotFormed s).cso = s.cso ∧
    (sourceNotFormed s).svc.startState = s.svc.startState ∧ (sourceNotFormed s).svc.loadTime = s.svc.loadTime ∧
    (sourceNotFormed s).svc.tryTime = s.svc.tryTime ∧ (sourceNotFormed s).svc.config = s.svc.config ∧
    (sourceNotFormed s).svc.unconfigured = s.svc.unconfigured ∧ (sourceNotFormed s).svc.clamped = s.svc.clamped ∧
    (sourceNotFormed s).svc.loadFault = s.svc.loadFault ∧
    (sourceNotFormed s).svc.factorySerial = s.svc.factorySerial ∧
    (sourceNotFormed s).svc.inhibitLatch = s.svc.inhibitLatch ∧
    (sourceNotFormed s).svc.supplyLatch = s.svc.supplyLatch ∧ (sourceNotFormed s).svc.malformed = s.svc.malformed ∧
    (sourceNotFormed s).svc.answer = s.svc.answer ∧ (sourceNotFormed s).pending = s.pending := by
  simp [sourceNotFormed]

@[simp] theorem offerTo_frame (e : End) (f : LinkFrame) (s : State) :
    (offerTo e f s).now = s.now ∧ (offerTo e f s).odo = s.odo ∧ (offerTo e f s).sns = s.sns ∧
    (offerTo e f s).tsu = s.tsu ∧ (offerTo e f s).rcl = s.rcl ∧ (offerTo e f s).src = s.src ∧
    (offerTo e f s).pvq = s.pvq ∧ (offerTo e f s).xck = s.xck ∧ (offerTo e f s).dmd = s.dmd ∧
    (offerTo e f s).act = s.act ∧ (offerTo e f s).cso = s.cso ∧ (offerTo e f s).svc.startState = s.svc.startState ∧
    (offerTo e f s).svc.loadTime = s.svc.loadTime ∧ (offerTo e f s).svc.tryTime = s.svc.tryTime ∧
    (offerTo e f s).svc.config = s.svc.config ∧ (offerTo e f s).svc.unconfigured = s.svc.unconfigured ∧
    (offerTo e f s).svc.clamped = s.svc.clamped ∧ (offerTo e f s).svc.loadFault = s.svc.loadFault ∧
    (offerTo e f s).svc.factorySerial = s.svc.factorySerial ∧
    (offerTo e f s).svc.inhibitLatch = s.svc.inhibitLatch ∧ (offerTo e f s).svc.supplyLatch = s.svc.supplyLatch ∧
    (offerTo e f s).svc.malformed = s.svc.malformed ∧ (offerTo e f s).svc.answer = s.svc.answer ∧
    (offerTo e f s).pending = s.pending := by
  unfold offerTo
  split
  · simp
  · split <;> simp

@[simp] theorem originate_frame (b : FrameBody) (s : State) :
    (originate b s).now = s.now ∧ (originate b s).odo = s.odo ∧ (originate b s).sns = s.sns ∧
    (originate b s).tsu = s.tsu ∧ (originate b s).rcl = s.rcl ∧ (originate b s).src = s.src ∧
    (originate b s).pvq = s.pvq ∧ (originate b s).xck = s.xck ∧ (originate b s).dmd = s.dmd ∧
    (originate b s).act = s.act ∧ (originate b s).cso = s.cso ∧ (originate b s).svc.startState = s.svc.startState ∧
    (originate b s).svc.loadTime = s.svc.loadTime ∧ (originate b s).svc.tryTime = s.svc.tryTime ∧
    (originate b s).svc.config = s.svc.config ∧ (originate b s).svc.unconfigured = s.svc.unconfigured ∧
    (originate b s).svc.clamped = s.svc.clamped ∧ (originate b s).svc.loadFault = s.svc.loadFault ∧
    (originate b s).svc.factorySerial = s.svc.factorySerial ∧
    (originate b s).svc.inhibitLatch = s.svc.inhibitLatch ∧ (originate b s).svc.supplyLatch = s.svc.supplyLatch ∧
    (originate b s).svc.malformed = s.svc.malformed ∧ (originate b s).svc.answer = s.svc.answer ∧
    (originate b s).pending = s.pending := by
  simp [originate]

@[simp] theorem forward_frame (e : End) (f : LinkFrame) (s : State) :
    (forward e f s).now = s.now ∧ (forward e f s).odo = s.odo ∧ (forward e f s).sns = s.sns ∧
    (forward e f s).tsu = s.tsu ∧ (forward e f s).rcl = s.rcl ∧ (forward e f s).src = s.src ∧
    (forward e f s).pvq = s.pvq ∧ (forward e f s).xck = s.xck ∧ (forward e f s).dmd = s.dmd ∧
    (forward e f s).act = s.act ∧ (forward e f s).cso = s.cso ∧ (forward e f s).svc.startState = s.svc.startState ∧
    (forward e f s).svc.loadTime = s.svc.loadTime ∧ (forward e f s).svc.tryTime = s.svc.tryTime ∧
    (forward e f s).svc.config = s.svc.config ∧ (forward e f s).svc.unconfigured = s.svc.unconfigured ∧
    (forward e f s).svc.clamped = s.svc.clamped ∧ (forward e f s).svc.loadFault = s.svc.loadFault ∧
    (forward e f s).svc.factorySerial = s.svc.factorySerial ∧
    (forward e f s).svc.inhibitLatch = s.svc.inhibitLatch ∧ (forward e f s).svc.supplyLatch = s.svc.supplyLatch ∧
    (forward e f s).svc.malformed = s.svc.malformed ∧ (forward e f s).svc.answer = s.svc.answer ∧
    (forward e f s).pending = s.pending := by
  unfold forward
  split <;> simp

@[simp] theorem sendCarState_frame (s : State) :
    (sendCarState s).now = s.now ∧ (sendCarState s).odo = s.odo ∧ (sendCarState s).sns = s.sns ∧
    (sendCarState s).tsu = s.tsu ∧ (sendCarState s).rcl = s.rcl ∧ (sendCarState s).src = s.src ∧
    (sendCarState s).pvq = s.pvq ∧ (sendCarState s).xck = s.xck ∧ (sendCarState s).dmd = s.dmd ∧
    (sendCarState s).act = s.act ∧ (sendCarState s).cso.neighbourA = s.cso.neighbourA ∧
    (sendCarState s).cso.neighbourB = s.cso.neighbourB ∧ (sendCarState s).cso.rawInhibit = s.cso.rawInhibit ∧
    (sendCarState s).cso.inhibit = s.cso.inhibit ∧ (sendCarState s).cso.debounceTime = s.cso.debounceTime ∧
    (sendCarState s).cso.unitInUse = s.cso.unitInUse ∧ (sendCarState s).cso.orderInhibit = s.cso.orderInhibit ∧
    (sendCarState s).svc.startState = s.svc.startState ∧ (sendCarState s).svc.loadTime = s.svc.loadTime ∧
    (sendCarState s).svc.tryTime = s.svc.tryTime ∧ (sendCarState s).svc.config = s.svc.config ∧
    (sendCarState s).svc.unconfigured = s.svc.unconfigured ∧ (sendCarState s).svc.clamped = s.svc.clamped ∧
    (sendCarState s).svc.loadFault = s.svc.loadFault ∧ (sendCarState s).svc.factorySerial = s.svc.factorySerial ∧
    (sendCarState s).svc.inhibitLatch = s.svc.inhibitLatch ∧ (sendCarState s).svc.supplyLatch = s.svc.supplyLatch ∧
    (sendCarState s).svc.malformed = s.svc.malformed ∧ (sendCarState s).svc.answer = s.svc.answer ∧
    (sendCarState s).pending = s.pending := by
  simp [sendCarState]

@[simp] theorem takeNeighbours_frame (x y : Option Identity) (s : State) :
    (takeNeighbours x y s).now = s.now ∧ (takeNeighbours x y s).odo = s.odo ∧ (takeNeighbours x y s).sns = s.sns ∧
    (takeNeighbours x y s).tsu = s.tsu ∧ (takeNeighbours x y s).portA = s.portA ∧
    (takeNeighbours x y s).portB = s.portB ∧ (takeNeighbours x y s).rcl = s.rcl ∧
    (takeNeighbours x y s).src = s.src ∧ (takeNeighbours x y s).pvq = s.pvq ∧ (takeNeighbours x y s).xck = s.xck ∧
    (takeNeighbours x y s).dmd = s.dmd ∧ (takeNeighbours x y s).act = s.act ∧
    (takeNeighbours x y s).cso.carStateTimer = s.cso.carStateTimer ∧
    (takeNeighbours x y s).cso.rawInhibit = s.cso.rawInhibit ∧ (takeNeighbours x y s).cso.inhibit = s.cso.inhibit ∧
    (takeNeighbours x y s).cso.debounceTime = s.cso.debounceTime ∧
    (takeNeighbours x y s).cso.unitInUse = s.cso.unitInUse ∧
    (takeNeighbours x y s).cso.orderInhibit = s.cso.orderInhibit ∧ (takeNeighbours x y s).svc = s.svc ∧
    (takeNeighbours x y s).pending = s.pending :=
  ⟨rfl, rfl, rfl, rfl, rfl, rfl, rfl, rfl, rfl, rfl, rfl, rfl, rfl, rfl, rfl, rfl, rfl, rfl, rfl, rfl⟩

@[simp] theorem reportNeighbour_frame (e : End) (h : Byte) (c : CarStateFrame) (s : State) :
    (reportNeighbour e h c s).now = s.now ∧ (reportNeighbour e h c s).odo = s.odo ∧
    (reportNeighbour e h c s).sns = s.sns ∧ (reportNeighbour e h c s).tsu = s.tsu ∧
    (reportNeighbour e h c s).portA = s.portA ∧ (reportNeighbour e h c s).portB = s.portB ∧
    (reportNeighbour e h c s).rcl = s.rcl ∧ (reportNeighbour e h c s).src = s.src ∧
    (reportNeighbour e h c s).pvq = s.pvq ∧ (reportNeighbour e h c s).xck = s.xck ∧
    (reportNeighbour e h c s).dmd = s.dmd ∧ (reportNeighbour e h c s).act = s.act ∧
    (reportNeighbour e h c s).cso.carStateTimer = s.cso.carStateTimer ∧
    (reportNeighbour e h c s).cso.rawInhibit = s.cso.rawInhibit ∧
    (reportNeighbour e h c s).cso.inhibit = s.cso.inhibit ∧
    (reportNeighbour e h c s).cso.debounceTime = s.cso.debounceTime ∧
    (reportNeighbour e h c s).cso.unitInUse = s.cso.unitInUse ∧
    (reportNeighbour e h c s).cso.orderInhibit = s.cso.orderInhibit ∧ (reportNeighbour e h c s).svc = s.svc ∧
    (reportNeighbour e h c s).pending = s.pending := by
  unfold reportNeighbour
  split
  · cases e <;> simp
  · simp

@[simp] theorem takeOrder_frame (o : TiltOrder) (s : State) :
    (takeOrder o s).now = s.now ∧ (takeOrder o s).odo = s.odo ∧ (takeOrder o s).sns = s.sns ∧
    (takeOrder o s).tsu = s.tsu ∧ (takeOrder o s).portA = s.portA ∧ (takeOrder o s).portB = s.portB ∧
    (takeOrder o s).rcl = s.rcl ∧ (takeOrder o s).src = s.src ∧ (takeOrder o s).pvq = s.pvq ∧
    (takeOrder o s).xck = s.xck ∧ (takeOrder o s).dmd = s.dmd ∧ (takeOrder o s).act = s.act ∧
    (takeOrder o s).cso.carStateTimer = s.cso.carStateTimer ∧ (takeOrder o s).cso.neighbourA = s.cso.neighbourA ∧
    (takeOrder o s).cso.neighbourB = s.cso.neighbourB ∧ (takeOrder o s).cso.rawInhibit = s.cso.rawInhibit ∧
    (takeOrder o s).cso.inhibit = s.cso.inhibit ∧ (takeOrder o s).cso.debounceTime = s.cso.debounceTime ∧
    (takeOrder o s).cso.unitInUse = s.cso.unitInUse ∧ (takeOrder o s).svc.startState = s.svc.startState ∧
    (takeOrder o s).svc.loadTime = s.svc.loadTime ∧ (takeOrder o s).svc.tryTime = s.svc.tryTime ∧
    (takeOrder o s).svc.config = s.svc.config ∧ (takeOrder o s).svc.unconfigured = s.svc.unconfigured ∧
    (takeOrder o s).svc.clamped = s.svc.clamped ∧ (takeOrder o s).svc.loadFault = s.svc.loadFault ∧
    (takeOrder o s).svc.factorySerial = s.svc.factorySerial ∧
    (takeOrder o s).svc.inhibitLatch = s.svc.inhibitLatch ∧ (takeOrder o s).svc.supplyLatch = s.svc.supplyLatch ∧
    (takeOrder o s).svc.malformed = s.svc.malformed ∧ (takeOrder o s).svc.answer = s.svc.answer ∧
    (takeOrder o s).pending = s.pending := by
  unfold takeOrder
  split
  · simp
  · split <;> simp

@[simp] theorem sendTiltOrder_frame (t : Byte) (a : OrderAction) (s : State) :
    (sendTiltOrder t a s).now = s.now ∧ (sendTiltOrder t a s).odo = s.odo ∧ (sendTiltOrder t a s).sns = s.sns ∧
    (sendTiltOrder t a s).tsu = s.tsu ∧ (sendTiltOrder t a s).rcl = s.rcl ∧ (sendTiltOrder t a s).src = s.src ∧
    (sendTiltOrder t a s).pvq = s.pvq ∧ (sendTiltOrder t a s).xck = s.xck ∧ (sendTiltOrder t a s).dmd = s.dmd ∧
    (sendTiltOrder t a s).act = s.act ∧ (sendTiltOrder t a s).cso.carStateTimer = s.cso.carStateTimer ∧
    (sendTiltOrder t a s).cso.neighbourA = s.cso.neighbourA ∧
    (sendTiltOrder t a s).cso.neighbourB = s.cso.neighbourB ∧
    (sendTiltOrder t a s).cso.rawInhibit = s.cso.rawInhibit ∧ (sendTiltOrder t a s).cso.inhibit = s.cso.inhibit ∧
    (sendTiltOrder t a s).cso.debounceTime = s.cso.debounceTime ∧
    (sendTiltOrder t a s).cso.unitInUse = s.cso.unitInUse ∧
    (sendTiltOrder t a s).svc.startState = s.svc.startState ∧ (sendTiltOrder t a s).svc.loadTime = s.svc.loadTime ∧
    (sendTiltOrder t a s).svc.tryTime = s.svc.tryTime ∧ (sendTiltOrder t a s).svc.config = s.svc.config ∧
    (sendTiltOrder t a s).svc.unconfigured = s.svc.unconfigured ∧
    (sendTiltOrder t a s).svc.clamped = s.svc.clamped ∧ (sendTiltOrder t a s).svc.loadFault = s.svc.loadFault ∧
    (sendTiltOrder t a s).svc.factorySerial = s.svc.factorySerial ∧
    (sendTiltOrder t a s).svc.inhibitLatch = s.svc.inhibitLatch ∧
    (sendTiltOrder t a s).svc.supplyLatch = s.svc.supplyLatch ∧
    (sendTiltOrder t a s).svc.malformed = s.svc.malformed ∧ (sendTiltOrder t a s).svc.answer = s.svc.answer ∧
    (sendTiltOrder t a s).pending = s.pending := by
  simp [sendTiltOrder]

@[simp] theorem noteEpoch_frame (e : Epoch) (s : State) :
    (noteEpoch e s).now = s.now ∧ (noteEpoch e s).odo = s.odo ∧ (noteEpoch e s).sns = s.sns ∧
    (noteEpoch e s).tsu = s.tsu ∧ (noteEpoch e s).portA = s.portA ∧ (noteEpoch e s).portB = s.portB ∧
    (noteEpoch e s).rcl.currentEpoch = s.rcl.currentEpoch ∧ (noteEpoch e s).rcl.trainState = s.rcl.trainState ∧
    (noteEpoch e s).rcl.roster = s.rcl.roster ∧ (noteEpoch e s).rcl.previousRoster = s.rcl.previousRoster ∧
    (noteEpoch e s).rcl.duplicateFlag = s.rcl.duplicateFlag ∧
    (noteEpoch e s).rcl.overflowFlag = s.rcl.overflowFlag ∧ (noteEpoch e s).rcl.refusedCount = s.rcl.refusedCount ∧
    (noteEpoch e s).rcl.quietTimer = s.rcl.quietTimer ∧ (noteEpoch e s).rcl.triggerHold = s.rcl.triggerHold ∧
    (noteEpoch e s).rcl.pendingTrigger = s.rcl.pendingTrigger ∧ (noteEpoch e s).src = s.src ∧
    (noteEpoch e s).pvq = s.pvq ∧ (noteEpoch e s).xck = s.xck ∧ (noteEpoch e s).dmd = s.dmd ∧
    (noteEpoch e s).act = s.act ∧ (noteEpoch e s).cso = s.cso ∧ (noteEpoch e s).svc = s.svc ∧
    (noteEpoch e s).pending = s.pending := by
  unfold noteEpoch
  split <;> simp

@[simp] theorem beginEpoch_frame (e : Epoch) (s : State) :
    (beginEpoch e s).now = s.now ∧ (beginEpoch e s).odo = s.odo ∧ (beginEpoch e s).sns = s.sns ∧
    (beginEpoch e s).tsu = s.tsu ∧ (beginEpoch e s).portA = s.portA ∧ (beginEpoch e s).portB = s.portB ∧
    (beginEpoch e s).src = s.src ∧ (beginEpoch e s).pvq = s.pvq ∧ (beginEpoch e s).xck = s.xck ∧
    (beginEpoch e s).dmd = s.dmd ∧ (beginEpoch e s).act = s.act ∧ (beginEpoch e s).cso = s.cso ∧
    (beginEpoch e s).svc = s.svc ∧ (beginEpoch e s).pending = s.pending := by
  simp [beginEpoch]

@[simp] theorem enterEpoch_frame (e : Epoch) (s : State) :
    (enterEpoch e s).now = s.now ∧ (enterEpoch e s).odo = s.odo ∧ (enterEpoch e s).sns = s.sns ∧
    (enterEpoch e s).tsu = s.tsu ∧ (enterEpoch e s).src = s.src ∧ (enterEpoch e s).pvq = s.pvq ∧
    (enterEpoch e s).xck = s.xck ∧ (enterEpoch e s).dmd = s.dmd ∧ (enterEpoch e s).act = s.act ∧
    (enterEpoch e s).cso = s.cso ∧ (enterEpoch e s).svc.startState = s.svc.startState ∧
    (enterEpoch e s).svc.loadTime = s.svc.loadTime ∧ (enterEpoch e s).svc.tryTime = s.svc.tryTime ∧
    (enterEpoch e s).svc.config = s.svc.config ∧ (enterEpoch e s).svc.unconfigured = s.svc.unconfigured ∧
    (enterEpoch e s).svc.clamped = s.svc.clamped ∧ (enterEpoch e s).svc.loadFault = s.svc.loadFault ∧
    (enterEpoch e s).svc.factorySerial = s.svc.factorySerial ∧
    (enterEpoch e s).svc.inhibitLatch = s.svc.inhibitLatch ∧ (enterEpoch e s).svc.supplyLatch = s.svc.supplyLatch ∧
    (enterEpoch e s).svc.malformed = s.svc.malformed ∧ (enterEpoch e s).svc.answer = s.svc.answer ∧
    (enterEpoch e s).pending = s.pending := by
  simp [enterEpoch, sendRollEntry]

@[simp] theorem startRollCall_frame (s : State) :
    (startRollCall s).now = s.now ∧ (startRollCall s).odo = s.odo ∧ (startRollCall s).sns = s.sns ∧
    (startRollCall s).tsu = s.tsu ∧ (startRollCall s).src = s.src ∧ (startRollCall s).pvq = s.pvq ∧
    (startRollCall s).xck = s.xck ∧ (startRollCall s).dmd = s.dmd ∧ (startRollCall s).act = s.act ∧
    (startRollCall s).cso = s.cso ∧ (startRollCall s).svc.startState = s.svc.startState ∧
    (startRollCall s).svc.loadTime = s.svc.loadTime ∧ (startRollCall s).svc.tryTime = s.svc.tryTime ∧
    (startRollCall s).svc.config = s.svc.config ∧ (startRollCall s).svc.unconfigured = s.svc.unconfigured ∧
    (startRollCall s).svc.clamped = s.svc.clamped ∧ (startRollCall s).svc.loadFault = s.svc.loadFault ∧
    (startRollCall s).svc.factorySerial = s.svc.factorySerial ∧
    (startRollCall s).svc.inhibitLatch = s.svc.inhibitLatch ∧
    (startRollCall s).svc.supplyLatch = s.svc.supplyLatch ∧ (startRollCall s).svc.malformed = s.svc.malformed ∧
    (startRollCall s).svc.answer = s.svc.answer ∧ (startRollCall s).pending = s.pending := by
  simp [startRollCall]

@[simp] theorem takeTrigger_frame (s : State) :
    (takeTrigger s).now = s.now ∧ (takeTrigger s).odo = s.odo ∧ (takeTrigger s).sns = s.sns ∧
    (takeTrigger s).tsu = s.tsu ∧ (takeTrigger s).src = s.src ∧ (takeTrigger s).pvq = s.pvq ∧
    (takeTrigger s).xck = s.xck ∧ (takeTrigger s).dmd = s.dmd ∧ (takeTrigger s).act = s.act ∧
    (takeTrigger s).cso = s.cso ∧ (takeTrigger s).svc.startState = s.svc.startState ∧
    (takeTrigger s).svc.loadTime = s.svc.loadTime ∧ (takeTrigger s).svc.tryTime = s.svc.tryTime ∧
    (takeTrigger s).svc.config = s.svc.config ∧ (takeTrigger s).svc.unconfigured = s.svc.unconfigured ∧
    (takeTrigger s).svc.clamped = s.svc.clamped ∧ (takeTrigger s).svc.loadFault = s.svc.loadFault ∧
    (takeTrigger s).svc.factorySerial = s.svc.factorySerial ∧
    (takeTrigger s).svc.inhibitLatch = s.svc.inhibitLatch ∧ (takeTrigger s).svc.supplyLatch = s.svc.supplyLatch ∧
    (takeTrigger s).svc.malformed = s.svc.malformed ∧ (takeTrigger s).svc.answer = s.svc.answer ∧
    (takeTrigger s).pending = s.pending := by
  unfold takeTrigger
  split
  · simp
  · split <;> simp

@[simp] theorem endTriggerHold_frame (s : State) :
    (endTriggerHold s).now = s.now ∧ (endTriggerHold s).odo = s.odo ∧ (endTriggerHold s).sns = s.sns ∧
    (endTriggerHold s).tsu = s.tsu ∧ (endTriggerHold s).src = s.src ∧ (endTriggerHold s).pvq = s.pvq ∧
    (endTriggerHold s).xck = s.xck ∧ (endTriggerHold s).dmd = s.dmd ∧ (endTriggerHold s).act = s.act ∧
    (endTriggerHold s).cso = s.cso ∧ (endTriggerHold s).svc.startState = s.svc.startState ∧
    (endTriggerHold s).svc.loadTime = s.svc.loadTime ∧ (endTriggerHold s).svc.tryTime = s.svc.tryTime ∧
    (endTriggerHold s).svc.config = s.svc.config ∧ (endTriggerHold s).svc.unconfigured = s.svc.unconfigured ∧
    (endTriggerHold s).svc.clamped = s.svc.clamped ∧ (endTriggerHold s).svc.loadFault = s.svc.loadFault ∧
    (endTriggerHold s).svc.factorySerial = s.svc.factorySerial ∧
    (endTriggerHold s).svc.inhibitLatch = s.svc.inhibitLatch ∧
    (endTriggerHold s).svc.supplyLatch = s.svc.supplyLatch ∧ (endTriggerHold s).svc.malformed = s.svc.malformed ∧
    (endTriggerHold s).svc.answer = s.svc.answer ∧ (endTriggerHold s).pending = s.pending := by
  unfold endTriggerHold
  split <;> simp

@[simp] theorem takeRollStart_frame (e : Epoch) (s : State) :
    (takeRollStart e s).now = s.now ∧ (takeRollStart e s).odo = s.odo ∧ (takeRollStart e s).sns = s.sns ∧
    (takeRollStart e s).tsu = s.tsu ∧ (takeRollStart e s).src = s.src ∧ (takeRollStart e s).pvq = s.pvq ∧
    (takeRollStart e s).xck = s.xck ∧ (takeRollStart e s).dmd = s.dmd ∧ (takeRollStart e s).act = s.act ∧
    (takeRollStart e s).cso = s.cso ∧ (takeRollStart e s).svc.startState = s.svc.startState ∧
    (takeRollStart e s).svc.loadTime = s.svc.loadTime ∧ (takeRollStart e s).svc.tryTime = s.svc.tryTime ∧
    (takeRollStart e s).svc.config = s.svc.config ∧ (takeRollStart e s).svc.unconfigured = s.svc.unconfigured ∧
    (takeRollStart e s).svc.clamped = s.svc.clamped ∧ (takeRollStart e s).svc.loadFault = s.svc.loadFault ∧
    (takeRollStart e s).svc.factorySerial = s.svc.factorySerial ∧
    (takeRollStart e s).svc.inhibitLatch = s.svc.inhibitLatch ∧
    (takeRollStart e s).svc.supplyLatch = s.svc.supplyLatch ∧ (takeRollStart e s).svc.malformed = s.svc.malformed ∧
    (takeRollStart e s).svc.answer = s.svc.answer ∧ (takeRollStart e s).pending = s.pending := by
  unfold takeRollStart
  dsimp only
  split <;> simp [enterOnReceipt]

@[simp] theorem storeRollEntry_frame (p : End) (h : Byte) (e : RollEntry) (s : State) :
    (storeRollEntry p h e s).now = s.now ∧ (storeRollEntry p h e s).odo = s.odo ∧
    (storeRollEntry p h e s).sns = s.sns ∧ (storeRollEntry p h e s).tsu = s.tsu ∧
    (storeRollEntry p h e s).portA = s.portA ∧ (storeRollEntry p h e s).portB = s.portB ∧
    (storeRollEntry p h e s).rcl.currentEpoch = s.rcl.currentEpoch ∧
    (storeRollEntry p h e s).rcl.highestEpoch = s.rcl.highestEpoch ∧
    (storeRollEntry p h e s).rcl.trainState = s.rcl.trainState ∧
    (storeRollEntry p h e s).rcl.previousRoster = s.rcl.previousRoster ∧
    (storeRollEntry p h e s).rcl.triggerHold = s.rcl.triggerHold ∧
    (storeRollEntry p h e s).rcl.pendingTrigger = s.rcl.pendingTrigger ∧ (storeRollEntry p h e s).src = s.src ∧
    (storeRollEntry p h e s).pvq = s.pvq ∧ (storeRollEntry p h e s).xck = s.xck ∧
    (storeRollEntry p h e s).dmd = s.dmd ∧ (storeRollEntry p h e s).act = s.act ∧
    (storeRollEntry p h e s).cso = s.cso ∧ (storeRollEntry p h e s).svc = s.svc ∧
    (storeRollEntry p h e s).pending = s.pending := by
  unfold storeRollEntry
  dsimp only
  split
  · simp
  · split <;> simp

@[simp] theorem takeRollEntry_frame (p : End) (h : Byte) (e : RollEntry) (s : State) :
    (takeRollEntry p h e s).now = s.now ∧ (takeRollEntry p h e s).odo = s.odo ∧
    (takeRollEntry p h e s).sns = s.sns ∧ (takeRollEntry p h e s).tsu = s.tsu ∧
    (takeRollEntry p h e s).src = s.src ∧ (takeRollEntry p h e s).pvq = s.pvq ∧
    (takeRollEntry p h e s).xck = s.xck ∧ (takeRollEntry p h e s).dmd = s.dmd ∧
    (takeRollEntry p h e s).act = s.act ∧ (takeRollEntry p h e s).cso = s.cso ∧
    (takeRollEntry p h e s).svc.startState = s.svc.startState ∧
    (takeRollEntry p h e s).svc.loadTime = s.svc.loadTime ∧ (takeRollEntry p h e s).svc.tryTime = s.svc.tryTime ∧
    (takeRollEntry p h e s).svc.config = s.svc.config ∧
    (takeRollEntry p h e s).svc.unconfigured = s.svc.unconfigured ∧
    (takeRollEntry p h e s).svc.clamped = s.svc.clamped ∧ (takeRollEntry p h e s).svc.loadFault = s.svc.loadFault ∧
    (takeRollEntry p h e s).svc.factorySerial = s.svc.factorySerial ∧
    (takeRollEntry p h e s).svc.inhibitLatch = s.svc.inhibitLatch ∧
    (takeRollEntry p h e s).svc.supplyLatch = s.svc.supplyLatch ∧
    (takeRollEntry p h e s).svc.malformed = s.svc.malformed ∧ (takeRollEntry p h e s).svc.answer = s.svc.answer ∧
    (takeRollEntry p h e s).pending = s.pending := by
  unfold takeRollEntry
  dsimp only
  split
  · simp
  · split
    · simp [enterOnReceipt]
    · split
      · split <;> simp
      · simp

@[simp] theorem formTrain_frame (s : State) :
    (formTrain s).now = s.now ∧ (formTrain s).odo = s.odo ∧ (formTrain s).sns = s.sns ∧ (formTrain s).tsu = s.tsu ∧
    (formTrain s).portA = s.portA ∧ (formTrain s).portB = s.portB ∧ (formTrain s).pvq.countsP = s.pvq.countsP ∧
    (formTrain s).pvq.countsS = s.pvq.countsS ∧ (formTrain s).pvq.lastLookup = s.pvq.lastLookup ∧
    (formTrain s).xck.threshold = s.xck.threshold ∧ (formTrain s).xck.agreed = s.xck.agreed ∧
    (formTrain s).xck.disagreed = s.xck.disagreed ∧ (formTrain s).xck.unmatched = s.xck.unmatched ∧
    (formTrain s).xck.latchSettings = s.xck.latchSettings ∧ (formTrain s).dmd = s.dmd ∧ (formTrain s).act = s.act ∧
    (formTrain s).cso.carStateTimer = s.cso.carStateTimer ∧ (formTrain s).cso.rawInhibit = s.cso.rawInhibit ∧
    (formTrain s).cso.inhibit = s.cso.inhibit ∧ (formTrain s).cso.debounceTime = s.cso.debounceTime ∧
    (formTrain s).cso.unitInUse = s.cso.unitInUse ∧ (formTrain s).cso.orderInhibit = s.cso.orderInhibit ∧
    (formTrain s).svc.startState = s.svc.startState ∧ (formTrain s).svc.loadTime = s.svc.loadTime ∧
    (formTrain s).svc.tryTime = s.svc.tryTime ∧ (formTrain s).svc.config = s.svc.config ∧
    (formTrain s).svc.unconfigured = s.svc.unconfigured ∧ (formTrain s).svc.clamped = s.svc.clamped ∧
    (formTrain s).svc.loadFault = s.svc.loadFault ∧ (formTrain s).svc.factorySerial = s.svc.factorySerial ∧
    (formTrain s).svc.inhibitLatch = s.svc.inhibitLatch ∧ (formTrain s).svc.supplyLatch = s.svc.supplyLatch ∧
    (formTrain s).svc.malformed = s.svc.malformed ∧ (formTrain s).svc.answer = s.svc.answer ∧
    (formTrain s).pending = s.pending := by
  simp [formTrain, raiseRollDone]

@[simp] theorem formWithout_frame (t : TrainState) (s : State) :
    (formWithout t s).now = s.now ∧ (formWithout t s).odo = s.odo ∧ (formWithout t s).sns = s.sns ∧
    (formWithout t s).tsu = s.tsu ∧ (formWithout t s).portA = s.portA ∧ (formWithout t s).portB = s.portB ∧
    (formWithout t s).pvq.countsP = s.pvq.countsP ∧ (formWithout t s).pvq.countsS = s.pvq.countsS ∧
    (formWithout t s).pvq.lastLookup = s.pvq.lastLookup ∧ (formWithout t s).xck.threshold = s.xck.threshold ∧
    (formWithout t s).xck.agreed = s.xck.agreed ∧ (formWithout t s).xck.disagreed = s.xck.disagreed ∧
    (formWithout t s).xck.unmatched = s.xck.unmatched ∧ (formWithout t s).xck.latchSettings = s.xck.latchSettings ∧
    (formWithout t s).dmd = s.dmd ∧ (formWithout t s).act = s.act ∧
    (formWithout t s).cso.carStateTimer = s.cso.carStateTimer ∧
    (formWithout t s).cso.rawInhibit = s.cso.rawInhibit ∧ (formWithout t s).cso.inhibit = s.cso.inhibit ∧
    (formWithout t s).cso.debounceTime = s.cso.debounceTime ∧ (formWithout t s).cso.unitInUse = s.cso.unitInUse ∧
    (formWithout t s).cso.orderInhibit = s.cso.orderInhibit ∧ (formWithout t s).svc.startState = s.svc.startState ∧
    (formWithout t s).svc.loadTime = s.svc.loadTime ∧ (formWithout t s).svc.tryTime = s.svc.tryTime ∧
    (formWithout t s).svc.config = s.svc.config ∧ (formWithout t s).svc.unconfigured = s.svc.unconfigured ∧
    (formWithout t s).svc.clamped = s.svc.clamped ∧ (formWithout t s).svc.loadFault = s.svc.loadFault ∧
    (formWithout t s).svc.factorySerial = s.svc.factorySerial ∧
    (formWithout t s).svc.inhibitLatch = s.svc.inhibitLatch ∧
    (formWithout t s).svc.supplyLatch = s.svc.supplyLatch ∧ (formWithout t s).svc.malformed = s.svc.malformed ∧
    (formWithout t s).svc.answer = s.svc.answer ∧ (formWithout t s).pending = s.pending := by
  simp [formWithout, raiseRollDone]

@[simp] theorem endQuietTimer_frame (s : State) :
    (endQuietTimer s).now = s.now ∧ (endQuietTimer s).odo = s.odo ∧ (endQuietTimer s).sns = s.sns ∧
    (endQuietTimer s).tsu = s.tsu ∧ (endQuietTimer s).pvq.countsP = s.pvq.countsP ∧
    (endQuietTimer s).pvq.countsS = s.pvq.countsS ∧ (endQuietTimer s).pvq.lastLookup = s.pvq.lastLookup ∧
    (endQuietTimer s).xck.threshold = s.xck.threshold ∧ (endQuietTimer s).xck.agreed = s.xck.agreed ∧
    (endQuietTimer s).xck.disagreed = s.xck.disagreed ∧ (endQuietTimer s).xck.unmatched = s.xck.unmatched ∧
    (endQuietTimer s).xck.latchSettings = s.xck.latchSettings ∧ (endQuietTimer s).dmd = s.dmd ∧
    (endQuietTimer s).act = s.act ∧ (endQuietTimer s).cso.carStateTimer = s.cso.carStateTimer ∧
    (endQuietTimer s).cso.rawInhibit = s.cso.rawInhibit ∧ (endQuietTimer s).cso.inhibit = s.cso.inhibit ∧
    (endQuietTimer s).cso.debounceTime = s.cso.debounceTime ∧ (endQuietTimer s).cso.unitInUse = s.cso.unitInUse ∧
    (endQuietTimer s).cso.orderInhibit = s.cso.orderInhibit ∧ (endQuietTimer s).svc.startState = s.svc.startState ∧
    (endQuietTimer s).svc.loadTime = s.svc.loadTime ∧ (endQuietTimer s).svc.tryTime = s.svc.tryTime ∧
    (endQuietTimer s).svc.config = s.svc.config ∧ (endQuietTimer s).svc.unconfigured = s.svc.unconfigured ∧
    (endQuietTimer s).svc.clamped = s.svc.clamped ∧ (endQuietTimer s).svc.loadFault = s.svc.loadFault ∧
    (endQuietTimer s).svc.factorySerial = s.svc.factorySerial ∧
    (endQuietTimer s).svc.inhibitLatch = s.svc.inhibitLatch ∧
    (endQuietTimer s).svc.supplyLatch = s.svc.supplyLatch ∧ (endQuietTimer s).svc.malformed = s.svc.malformed ∧
    (endQuietTimer s).svc.answer = s.svc.answer ∧ (endQuietTimer s).pending = s.pending := by
  unfold endQuietTimer
  dsimp only
  split <;> simp

@[simp] theorem applyToRosters_frame (i : Identity) (p : End) (h : Byte) (f : RosterEntry → RosterEntry) (s : State) :
    (applyToRosters i p h f s).now = s.now ∧ (applyToRosters i p h f s).odo = s.odo ∧
    (applyToRosters i p h f s).sns = s.sns ∧ (applyToRosters i p h f s).tsu = s.tsu ∧
    (applyToRosters i p h f s).portA = s.portA ∧ (applyToRosters i p h f s).portB = s.portB ∧
    (applyToRosters i p h f s).rcl.currentEpoch = s.rcl.currentEpoch ∧
    (applyToRosters i p h f s).rcl.highestEpoch = s.rcl.highestEpoch ∧
    (applyToRosters i p h f s).rcl.trainState = s.rcl.trainState ∧
    (applyToRosters i p h f s).rcl.duplicateFlag = s.rcl.duplicateFlag ∧
    (applyToRosters i p h f s).rcl.overflowFlag = s.rcl.overflowFlag ∧
    (applyToRosters i p h f s).rcl.refusedCount = s.rcl.refusedCount ∧
    (applyToRosters i p h f s).rcl.quietTimer = s.rcl.quietTimer ∧
    (applyToRosters i p h f s).rcl.triggerHold = s.rcl.triggerHold ∧
    (applyToRosters i p h f s).rcl.pendingTrigger = s.rcl.pendingTrigger ∧ (applyToRosters i p h f s).src = s.src ∧
    (applyToRosters i p h f s).pvq = s.pvq ∧ (applyToRosters i p h f s).xck = s.xck ∧
    (applyToRosters i p h f s).dmd = s.dmd ∧ (applyToRosters i p h f s).act = s.act ∧
    (applyToRosters i p h f s).cso = s.cso ∧ (applyToRosters i p h f s).svc = s.svc ∧
    (applyToRosters i p h f s).pending = s.pending := by
  unfold applyToRosters
  dsimp only
  split <;> simp

@[simp] theorem takeLiveness_frame (i : Identity) (p : End) (h : Byte) (f : RosterEntry → RosterEntry) (s : State) :
    (takeLiveness i p h f s).now = s.now ∧ (takeLiveness i p h f s).odo = s.odo ∧
    (takeLiveness i p h f s).sns = s.sns ∧ (takeLiveness i p h f s).tsu = s.tsu ∧
    (takeLiveness i p h f s).pvq.countsP = s.pvq.countsP ∧ (takeLiveness i p h f s).pvq.countsS = s.pvq.countsS ∧
    (takeLiveness i p h f s).pvq.lastLookup = s.pvq.lastLookup ∧
    (takeLiveness i p h f s).xck.threshold = s.xck.threshold ∧ (takeLiveness i p h f s).xck.agreed = s.xck.agreed ∧
    (takeLiveness i p h f s).xck.disagreed = s.xck.disagreed ∧
    (takeLiveness i p h f s).xck.unmatched = s.xck.unmatched ∧
    (takeLiveness i p h f s).xck.latchSettings = s.xck.latchSettings ∧ (takeLiveness i p h f s).dmd = s.dmd ∧
    (takeLiveness i p h f s).act = s.act ∧ (takeLiveness i p h f s).cso = s.cso ∧
    (takeLiveness i p h f s).svc.startState = s.svc.startState ∧
    (takeLiveness i p h f s).svc.loadTime = s.svc.loadTime ∧ (takeLiveness i p h f s).svc.tryTime = s.svc.tryTime ∧
    (takeLiveness i p h f s).svc.config = s.svc.config ∧
    (takeLiveness i p h f s).svc.unconfigured = s.svc.unconfigured ∧
    (takeLiveness i p h f s).svc.clamped = s.svc.clamped ∧
    (takeLiveness i p h f s).svc.loadFault = s.svc.loadFault ∧
    (takeLiveness i p h f s).svc.factorySerial = s.svc.factorySerial ∧
    (takeLiveness i p h f s).svc.inhibitLatch = s.svc.inhibitLatch ∧
    (takeLiveness i p h f s).svc.supplyLatch = s.svc.supplyLatch ∧
    (takeLiveness i p h f s).svc.malformed = s.svc.malformed ∧ (takeLiveness i p h f s).svc.answer = s.svc.answer ∧
    (takeLiveness i p h f s).pending = s.pending := by
  unfold takeLiveness
  split
  · simp
  · split <;> simp

@[simp] theorem copyCondition_frame (l : ConditionLine) (s : State) :
    (copyCondition l s).now = s.now ∧ (copyCondition l s).odo = s.odo ∧ (copyCondition l s).sns = s.sns ∧
    (copyCondition l s).tsu = s.tsu ∧ (copyCondition l s).portA = s.portA ∧ (copyCondition l s).portB = s.portB ∧
    (copyCondition l s).rcl = s.rcl ∧ (copyCondition l s).src = s.src ∧ (copyCondition l s).pvq = s.pvq ∧
    (copyCondition l s).xck = s.xck ∧ (copyCondition l s).dmd = s.dmd ∧ (copyCondition l s).act = s.act ∧
    (copyCondition l s).cso = s.cso ∧ (copyCondition l s).svc.startState = s.svc.startState ∧
    (copyCondition l s).svc.loadTime = s.svc.loadTime ∧ (copyCondition l s).svc.tryTime = s.svc.tryTime ∧
    (copyCondition l s).svc.config = s.svc.config ∧ (copyCondition l s).svc.unconfigured = s.svc.unconfigured ∧
    (copyCondition l s).svc.clamped = s.svc.clamped ∧ (copyCondition l s).svc.loadFault = s.svc.loadFault ∧
    (copyCondition l s).svc.factorySerial = s.svc.factorySerial ∧
    (copyCondition l s).svc.malformed = s.svc.malformed ∧ (copyCondition l s).svc.answer = s.svc.answer ∧
    (copyCondition l s).pending = s.pending := by
  unfold copyCondition setConditionLatch
  cases l <;> simp

@[simp] theorem handCondition_frame (l : ConditionLine) (s : State) :
    (handCondition l s).now = s.now ∧ (handCondition l s).odo = s.odo ∧ (handCondition l s).sns = s.sns ∧
    (handCondition l s).tsu = s.tsu ∧ (handCondition l s).portA = s.portA ∧ (handCondition l s).portB = s.portB ∧
    (handCondition l s).rcl = s.rcl ∧ (handCondition l s).src = s.src ∧ (handCondition l s).pvq = s.pvq ∧
    (handCondition l s).xck = s.xck ∧ (handCondition l s).dmd = s.dmd ∧ (handCondition l s).act = s.act ∧
    (handCondition l s).cso = s.cso ∧ (handCondition l s).svc.startState = s.svc.startState ∧
    (handCondition l s).svc.loadTime = s.svc.loadTime ∧ (handCondition l s).svc.tryTime = s.svc.tryTime ∧
    (handCondition l s).svc.config = s.svc.config ∧ (handCondition l s).svc.unconfigured = s.svc.unconfigured ∧
    (handCondition l s).svc.clamped = s.svc.clamped ∧ (handCondition l s).svc.loadFault = s.svc.loadFault ∧
    (handCondition l s).svc.factorySerial = s.svc.factorySerial ∧
    (handCondition l s).svc.malformed = s.svc.malformed ∧ (handCondition l s).svc.answer = s.svc.answer ∧
    (handCondition l s).pending = s.pending := by
  unfold handCondition
  split <;> simp

@[simp] theorem rejudgeCondition_frame (l : ConditionLine) (s : State) :
    (rejudgeCondition l s).now = s.now ∧ (rejudgeCondition l s).odo = s.odo ∧ (rejudgeCondition l s).sns = s.sns ∧
    (rejudgeCondition l s).tsu = s.tsu ∧ (rejudgeCondition l s).portA = s.portA ∧
    (rejudgeCondition l s).portB = s.portB ∧ (rejudgeCondition l s).rcl = s.rcl ∧
    (rejudgeCondition l s).src = s.src ∧ (rejudgeCondition l s).pvq = s.pvq ∧ (rejudgeCondition l s).xck = s.xck ∧
    (rejudgeCondition l s).dmd = s.dmd ∧ (rejudgeCondition l s).act = s.act ∧ (rejudgeCondition l s).cso = s.cso ∧
    (rejudgeCondition l s).svc.startState = s.svc.startState ∧
    (rejudgeCondition l s).svc.loadTime = s.svc.loadTime ∧ (rejudgeCondition l s).svc.tryTime = s.svc.tryTime ∧
    (rejudgeCondition l s).svc.config = s.svc.config ∧
    (rejudgeCondition l s).svc.unconfigured = s.svc.unconfigured ∧
    (rejudgeCondition l s).svc.clamped = s.svc.clamped ∧ (rejudgeCondition l s).svc.loadFault = s.svc.loadFault ∧
    (rejudgeCondition l s).svc.factorySerial = s.svc.factorySerial ∧
    (rejudgeCondition l s).svc.malformed = s.svc.malformed ∧ (rejudgeCondition l s).svc.answer = s.svc.answer ∧
    (rejudgeCondition l s).pending = s.pending := by
  unfold rejudgeCondition
  split <;> simp

@[simp] theorem rejudgeConditions_frame (s : State) :
    (rejudgeConditions s).now = s.now ∧ (rejudgeConditions s).odo = s.odo ∧ (rejudgeConditions s).sns = s.sns ∧
    (rejudgeConditions s).tsu = s.tsu ∧ (rejudgeConditions s).portA = s.portA ∧
    (rejudgeConditions s).portB = s.portB ∧ (rejudgeConditions s).rcl = s.rcl ∧ (rejudgeConditions s).src = s.src ∧
    (rejudgeConditions s).pvq = s.pvq ∧ (rejudgeConditions s).xck = s.xck ∧ (rejudgeConditions s).dmd = s.dmd ∧
    (rejudgeConditions s).act = s.act ∧ (rejudgeConditions s).cso = s.cso ∧
    (rejudgeConditions s).svc.startState = s.svc.startState ∧ (rejudgeConditions s).svc.loadTime = s.svc.loadTime ∧
    (rejudgeConditions s).svc.tryTime = s.svc.tryTime ∧ (rejudgeConditions s).svc.config = s.svc.config ∧
    (rejudgeConditions s).svc.unconfigured = s.svc.unconfigured ∧
    (rejudgeConditions s).svc.clamped = s.svc.clamped ∧ (rejudgeConditions s).svc.loadFault = s.svc.loadFault ∧
    (rejudgeConditions s).svc.factorySerial = s.svc.factorySerial ∧
    (rejudgeConditions s).svc.malformed = s.svc.malformed ∧ (rejudgeConditions s).svc.answer = s.svc.answer ∧
    (rejudgeConditions s).pending = s.pending := by
  simp [rejudgeConditions]

@[simp] theorem inhibitChanges_frame (s : State) :
    (inhibitChanges s).now = s.now ∧ (inhibitChanges s).odo = s.odo ∧ (inhibitChanges s).sns = s.sns ∧
    (inhibitChanges s).tsu = s.tsu ∧ (inhibitChanges s).portA = s.portA ∧ (inhibitChanges s).portB = s.portB ∧
    (inhibitChanges s).rcl = s.rcl ∧ (inhibitChanges s).src = s.src ∧ (inhibitChanges s).pvq = s.pvq ∧
    (inhibitChanges s).xck = s.xck ∧ (inhibitChanges s).dmd = s.dmd ∧ (inhibitChanges s).act = s.act ∧
    (inhibitChanges s).cso.carStateTimer = s.cso.carStateTimer ∧
    (inhibitChanges s).cso.neighbourA = s.cso.neighbourA ∧ (inhibitChanges s).cso.neighbourB = s.cso.neighbourB ∧
    (inhibitChanges s).cso.rawInhibit = s.cso.rawInhibit ∧ (inhibitChanges s).cso.unitInUse = s.cso.unitInUse ∧
    (inhibitChanges s).cso.orderInhibit = s.cso.orderInhibit ∧
    (inhibitChanges s).svc.startState = s.svc.startState ∧ (inhibitChanges s).svc.loadTime = s.svc.loadTime ∧
    (inhibitChanges s).svc.tryTime = s.svc.tryTime ∧ (inhibitChanges s).svc.config = s.svc.config ∧
    (inhibitChanges s).svc.unconfigured = s.svc.unconfigured ∧ (inhibitChanges s).svc.clamped = s.svc.clamped ∧
    (inhibitChanges s).svc.loadFault = s.svc.loadFault ∧
    (inhibitChanges s).svc.factorySerial = s.svc.factorySerial ∧
    (inhibitChanges s).svc.malformed = s.svc.malformed ∧ (inhibitChanges s).svc.answer = s.svc.answer ∧
    (inhibitChanges s).pending = s.pending := by
  simp [inhibitChanges]

@[simp] theorem disableDrive_frame (s : State) :
    (disableDrive s).now = s.now ∧ (disableDrive s).odo = s.odo ∧ (disableDrive s).sns = s.sns ∧
    (disableDrive s).tsu = s.tsu ∧ (disableDrive s).portA = s.portA ∧ (disableDrive s).portB = s.portB ∧
    (disableDrive s).rcl = s.rcl ∧ (disableDrive s).src = s.src ∧ (disableDrive s).pvq = s.pvq ∧
    (disableDrive s).xck = s.xck ∧ (disableDrive s).dmd = s.dmd ∧ (disableDrive s).act.loopGain = s.act.loopGain ∧
    (disableDrive s).act.rawSupply = s.act.rawSupply ∧ (disableDrive s).act.supplyOk = s.act.supplyOk ∧
    (disableDrive s).act.debounceTime = s.act.debounceTime ∧ (disableDrive s).act.failedLatch = s.act.failedLatch ∧
    (disableDrive s).act.failureCause = s.act.failureCause ∧ (disableDrive s).cso = s.cso ∧
    (disableDrive s).svc = s.svc ∧ (disableDrive s).pending = s.pending :=
  ⟨rfl, rfl, rfl, rfl, rfl, rfl, rfl, rfl, rfl, rfl, rfl, rfl, rfl, rfl, rfl, rfl, rfl, rfl, rfl, rfl⟩

@[simp] theorem failActuator_frame (c : FailureCause) (s : State) :
    (failActuator c s).now = s.now ∧ (failActuator c s).odo = s.odo ∧ (failActuator c s).sns = s.sns ∧
    (failActuator c s).tsu = s.tsu ∧ (failActuator c s).portA = s.portA ∧ (failActuator c s).portB = s.portB ∧
    (failActuator c s).rcl = s.rcl ∧ (failActuator c s).src = s.src ∧ (failActuator c s).pvq = s.pvq ∧
    (failActuator c s).xck = s.xck ∧ (failActuator c s).dmd = s.dmd ∧
    (failActuator c s).act.loopGain = s.act.loopGain ∧ (failActuator c s).act.rawSupply = s.act.rawSupply ∧
    (failActuator c s).act.supplyOk = s.act.supplyOk ∧ (failActuator c s).act.debounceTime = s.act.debounceTime ∧
    (failActuator c s).cso = s.cso ∧ (failActuator c s).svc.startState = s.svc.startState ∧
    (failActuator c s).svc.loadTime = s.svc.loadTime ∧ (failActuator c s).svc.tryTime = s.svc.tryTime ∧
    (failActuator c s).svc.config = s.svc.config ∧ (failActuator c s).svc.unconfigured = s.svc.unconfigured ∧
    (failActuator c s).svc.clamped = s.svc.clamped ∧ (failActuator c s).svc.loadFault = s.svc.loadFault ∧
    (failActuator c s).svc.factorySerial = s.svc.factorySerial ∧
    (failActuator c s).svc.inhibitLatch = s.svc.inhibitLatch ∧
    (failActuator c s).svc.supplyLatch = s.svc.supplyLatch ∧ (failActuator c s).svc.malformed = s.svc.malformed ∧
    (failActuator c s).svc.answer = s.svc.answer ∧ (failActuator c s).pending = s.pending := by
  unfold failActuator
  split <;> simp

@[simp] theorem failConfig_frame (f : LoadFault) (s : State) :
    (failConfig f s).now = s.now ∧ (failConfig f s).odo = s.odo ∧ (failConfig f s).sns = s.sns ∧
    (failConfig f s).tsu = s.tsu ∧ (failConfig f s).portA = s.portA ∧ (failConfig f s).portB = s.portB ∧
    (failConfig f s).rcl = s.rcl ∧ (failConfig f s).src = s.src ∧ (failConfig f s).pvq = s.pvq ∧
    (failConfig f s).xck = s.xck ∧ (failConfig f s).dmd = s.dmd ∧ (failConfig f s).act.loopGain = s.act.loopGain ∧
    (failConfig f s).act.rawSupply = s.act.rawSupply ∧ (failConfig f s).act.supplyOk = s.act.supplyOk ∧
    (failConfig f s).act.debounceTime = s.act.debounceTime ∧ (failConfig f s).cso = s.cso ∧
    (failConfig f s).svc.startState = s.svc.startState ∧ (failConfig f s).svc.loadTime = s.svc.loadTime ∧
    (failConfig f s).svc.tryTime = s.svc.tryTime ∧ (failConfig f s).svc.config = s.svc.config ∧
    (failConfig f s).svc.unconfigured = s.svc.unconfigured ∧ (failConfig f s).svc.clamped = s.svc.clamped ∧
    (failConfig f s).svc.loadFault = s.svc.loadFault ∧ (failConfig f s).svc.factorySerial = s.svc.factorySerial ∧
    (failConfig f s).svc.inhibitLatch = s.svc.inhibitLatch ∧ (failConfig f s).svc.supplyLatch = s.svc.supplyLatch ∧
    (failConfig f s).svc.malformed = s.svc.malformed ∧ (failConfig f s).svc.answer = s.svc.answer ∧
    (failConfig f s).pending = s.pending := by
  simp [failConfig]

@[simp] theorem clearFailed_frame (s : State) :
    (clearFailed s).now = s.now ∧ (clearFailed s).odo = s.odo ∧ (clearFailed s).sns = s.sns ∧
    (clearFailed s).tsu = s.tsu ∧ (clearFailed s).portA = s.portA ∧ (clearFailed s).portB = s.portB ∧
    (clearFailed s).rcl = s.rcl ∧ (clearFailed s).src = s.src ∧ (clearFailed s).pvq = s.pvq ∧
    (clearFailed s).xck = s.xck ∧ (clearFailed s).dmd = s.dmd ∧ (clearFailed s).act.duty = s.act.duty ∧
    (clearFailed s).act.enable = s.act.enable ∧ (clearFailed s).act.loopGain = s.act.loopGain ∧
    (clearFailed s).act.rawSupply = s.act.rawSupply ∧ (clearFailed s).act.supplyOk = s.act.supplyOk ∧
    (clearFailed s).act.debounceTime = s.act.debounceTime ∧ (clearFailed s).act.blanking = s.act.blanking ∧
    (clearFailed s).act.trackingCount = s.act.trackingCount ∧ (clearFailed s).cso = s.cso ∧
    (clearFailed s).svc = s.svc ∧ (clearFailed s).pending = s.pending :=
  ⟨rfl, rfl, rfl, rfl, rfl, rfl, rfl, rfl, rfl, rfl, rfl, rfl, rfl, rfl, rfl, rfl, rfl, rfl, rfl, rfl, rfl,
   rfl⟩

@[simp] theorem judgeTracking_frame (s : State) :
    (judgeTracking s).now = s.now ∧ (judgeTracking s).odo = s.odo ∧ (judgeTracking s).sns = s.sns ∧
    (judgeTracking s).tsu = s.tsu ∧ (judgeTracking s).portA = s.portA ∧ (judgeTracking s).portB = s.portB ∧
    (judgeTracking s).rcl = s.rcl ∧ (judgeTracking s).src = s.src ∧ (judgeTracking s).pvq = s.pvq ∧
    (judgeTracking s).xck = s.xck ∧ (judgeTracking s).dmd = s.dmd ∧
    (judgeTracking s).act.loopGain = s.act.loopGain ∧ (judgeTracking s).act.rawSupply = s.act.rawSupply ∧
    (judgeTracking s).act.supplyOk = s.act.supplyOk ∧ (judgeTracking s).act.debounceTime = s.act.debounceTime ∧
    (judgeTracking s).cso = s.cso ∧ (judgeTracking s).svc.startState = s.svc.startState ∧
    (judgeTracking s).svc.loadTime = s.svc.loadTime ∧ (judgeTracking s).svc.tryTime = s.svc.tryTime ∧
    (judgeTracking s).svc.config = s.svc.config ∧ (judgeTracking s).svc.unconfigured = s.svc.unconfigured ∧
    (judgeTracking s).svc.clamped = s.svc.clamped ∧ (judgeTracking s).svc.loadFault = s.svc.loadFault ∧
    (judgeTracking s).svc.factorySerial = s.svc.factorySerial ∧
    (judgeTracking s).svc.inhibitLatch = s.svc.inhibitLatch ∧
    (judgeTracking s).svc.supplyLatch = s.svc.supplyLatch ∧ (judgeTracking s).svc.malformed = s.svc.malformed ∧
    (judgeTracking s).svc.answer = s.svc.answer ∧ (judgeTracking s).pending = s.pending := by
  unfold judgeTracking
  dsimp only
  split
  · simp
  · split <;> simp

@[simp] theorem monitorTracking_frame (s : State) :
    (monitorTracking s).now = s.now ∧ (monitorTracking s).odo = s.odo ∧ (monitorTracking s).sns = s.sns ∧
    (monitorTracking s).tsu = s.tsu ∧ (monitorTracking s).portA = s.portA ∧ (monitorTracking s).portB = s.portB ∧
    (monitorTracking s).rcl = s.rcl ∧ (monitorTracking s).src = s.src ∧ (monitorTracking s).pvq = s.pvq ∧
    (monitorTracking s).xck = s.xck ∧ (monitorTracking s).dmd = s.dmd ∧
    (monitorTracking s).act.loopGain = s.act.loopGain ∧ (monitorTracking s).act.rawSupply = s.act.rawSupply ∧
    (monitorTracking s).act.supplyOk = s.act.supplyOk ∧ (monitorTracking s).act.debounceTime = s.act.debounceTime ∧
    (monitorTracking s).cso = s.cso ∧ (monitorTracking s).svc.startState = s.svc.startState ∧
    (monitorTracking s).svc.loadTime = s.svc.loadTime ∧ (monitorTracking s).svc.tryTime = s.svc.tryTime ∧
    (monitorTracking s).svc.config = s.svc.config ∧ (monitorTracking s).svc.unconfigured = s.svc.unconfigured ∧
    (monitorTracking s).svc.clamped = s.svc.clamped ∧ (monitorTracking s).svc.loadFault = s.svc.loadFault ∧
    (monitorTracking s).svc.factorySerial = s.svc.factorySerial ∧
    (monitorTracking s).svc.inhibitLatch = s.svc.inhibitLatch ∧
    (monitorTracking s).svc.supplyLatch = s.svc.supplyLatch ∧ (monitorTracking s).svc.malformed = s.svc.malformed ∧
    (monitorTracking s).svc.answer = s.svc.answer ∧ (monitorTracking s).pending = s.pending := by
  unfold monitorTracking
  split <;> simp

@[simp] theorem handCommand_frame (s : State) :
    (handCommand s).now = s.now ∧ (handCommand s).odo = s.odo ∧ (handCommand s).sns = s.sns ∧
    (handCommand s).tsu = s.tsu ∧ (handCommand s).portA = s.portA ∧ (handCommand s).portB = s.portB ∧
    (handCommand s).rcl = s.rcl ∧ (handCommand s).src = s.src ∧ (handCommand s).pvq = s.pvq ∧
    (handCommand s).xck = s.xck ∧ (handCommand s).dmd = s.dmd ∧ (handCommand s).act.loopGain = s.act.loopGain ∧
    (handCommand s).act.rawSupply = s.act.rawSupply ∧ (handCommand s).act.supplyOk = s.act.supplyOk ∧
    (handCommand s).act.debounceTime = s.act.debounceTime ∧ (handCommand s).cso = s.cso ∧
    (handCommand s).svc.startState = s.svc.startState ∧ (handCommand s).svc.loadTime = s.svc.loadTime ∧
    (handCommand s).svc.tryTime = s.svc.tryTime ∧ (handCommand s).svc.config = s.svc.config ∧
    (handCommand s).svc.unconfigured = s.svc.unconfigured ∧ (handCommand s).svc.clamped = s.svc.clamped ∧
    (handCommand s).svc.loadFault = s.svc.loadFault ∧ (handCommand s).svc.factorySerial = s.svc.factorySerial ∧
    (handCommand s).svc.inhibitLatch = s.svc.inhibitLatch ∧ (handCommand s).svc.supplyLatch = s.svc.supplyLatch ∧
    (handCommand s).svc.malformed = s.svc.malformed ∧ (handCommand s).svc.answer = s.svc.answer ∧
    (handCommand s).pending = s.pending := by
  unfold handCommand
  dsimp only
  split
  · split <;> simp
  · simp

@[simp] theorem supplyChanges_frame (s : State) :
    (supplyChanges s).now = s.now ∧ (supplyChanges s).odo = s.odo ∧ (supplyChanges s).sns = s.sns ∧
    (supplyChanges s).tsu = s.tsu ∧ (supplyChanges s).portA = s.portA ∧ (supplyChanges s).portB = s.portB ∧
    (supplyChanges s).rcl = s.rcl ∧ (supplyChanges s).src = s.src ∧ (supplyChanges s).pvq = s.pvq ∧
    (supplyChanges s).xck = s.xck ∧ (supplyChanges s).dmd = s.dmd ∧ (supplyChanges s).cso = s.cso ∧
    (supplyChanges s).svc.startState = s.svc.startState ∧ (supplyChanges s).svc.loadTime = s.svc.loadTime ∧
    (supplyChanges s).svc.tryTime = s.svc.tryTime ∧ (supplyChanges s).svc.config = s.svc.config ∧
    (supplyChanges s).svc.unconfigured = s.svc.unconfigured ∧ (supplyChanges s).svc.clamped = s.svc.clamped ∧
    (supplyChanges s).svc.loadFault = s.svc.loadFault ∧ (supplyChanges s).svc.factorySerial = s.svc.factorySerial ∧
    (supplyChanges s).svc.malformed = s.svc.malformed ∧ (supplyChanges s).svc.answer = s.svc.answer ∧
    (supplyChanges s).pending = s.pending := by
  unfold supplyChanges
  dsimp only
  simp
  split
  · simp
  · split <;> simp

@[simp] theorem takeLoadOutcome_frame (f : Option LoadFault) (s : State) :
    (takeLoadOutcome f s).now = s.now ∧ (takeLoadOutcome f s).odo = s.odo ∧ (takeLoadOutcome f s).sns = s.sns ∧
    (takeLoadOutcome f s).tsu = s.tsu ∧ (takeLoadOutcome f s).portA = s.portA ∧
    (takeLoadOutcome f s).portB = s.portB ∧ (takeLoadOutcome f s).rcl = s.rcl ∧ (takeLoadOutcome f s).src = s.src ∧
    (takeLoadOutcome f s).pvq = s.pvq ∧ (takeLoadOutcome f s).xck = s.xck ∧ (takeLoadOutcome f s).dmd = s.dmd ∧
    (takeLoadOutcome f s).act.loopGain = s.act.loopGain ∧ (takeLoadOutcome f s).act.rawSupply = s.act.rawSupply ∧
    (takeLoadOutcome f s).act.supplyOk = s.act.supplyOk ∧
    (takeLoadOutcome f s).act.debounceTime = s.act.debounceTime ∧ (takeLoadOutcome f s).cso = s.cso ∧
    (takeLoadOutcome f s).svc.startState = s.svc.startState ∧ (takeLoadOutcome f s).svc.loadTime = s.svc.loadTime ∧
    (takeLoadOutcome f s).svc.tryTime = s.svc.tryTime ∧ (takeLoadOutcome f s).svc.config = s.svc.config ∧
    (takeLoadOutcome f s).svc.unconfigured = s.svc.unconfigured ∧
    (takeLoadOutcome f s).svc.clamped = s.svc.clamped ∧ (takeLoadOutcome f s).svc.loadFault = s.svc.loadFault ∧
    (takeLoadOutcome f s).svc.factorySerial = s.svc.factorySerial ∧
    (takeLoadOutcome f s).svc.inhibitLatch = s.svc.inhibitLatch ∧
    (takeLoadOutcome f s).svc.supplyLatch = s.svc.supplyLatch ∧
    (takeLoadOutcome f s).svc.malformed = s.svc.malformed ∧ (takeLoadOutcome f s).svc.answer = s.svc.answer ∧
    (takeLoadOutcome f s).pending = s.pending := by
  unfold takeLoadOutcome
  split
  · simp
  · split
    · split <;> simp
    · simp

@[simp] theorem countBogieFrame_frame (g : Bool) (s : State) :
    (countBogieFrame g s).now = s.now ∧ (countBogieFrame g s).odo = s.odo ∧
    (countBogieFrame g s).sns.lastBogie = s.sns.lastBogie ∧ (countBogieFrame g s).sns.lastBody = s.sns.lastBody ∧
    (countBogieFrame g s).sns.bodyHealth = s.sns.bodyHealth ∧ (countBogieFrame g s).sns.counters = s.sns.counters ∧
    (countBogieFrame g s).sns.wait = s.sns.wait ∧ (countBogieFrame g s).sns.request = s.sns.request ∧
    (countBogieFrame g s).tsu = s.tsu ∧ (countBogieFrame g s).portA = s.portA ∧
    (countBogieFrame g s).portB = s.portB ∧ (countBogieFrame g s).rcl = s.rcl ∧ (countBogieFrame g s).src = s.src ∧
    (countBogieFrame g s).pvq = s.pvq ∧ (countBogieFrame g s).xck = s.xck ∧ (countBogieFrame g s).dmd = s.dmd ∧
    (countBogieFrame g s).act = s.act ∧ (countBogieFrame g s).cso = s.cso ∧
    (countBogieFrame g s).svc.startState = s.svc.startState ∧ (countBogieFrame g s).svc.loadTime = s.svc.loadTime ∧
    (countBogieFrame g s).svc.tryTime = s.svc.tryTime ∧ (countBogieFrame g s).svc.config = s.svc.config ∧
    (countBogieFrame g s).svc.unconfigured = s.svc.unconfigured ∧
    (countBogieFrame g s).svc.clamped = s.svc.clamped ∧ (countBogieFrame g s).svc.loadFault = s.svc.loadFault ∧
    (countBogieFrame g s).svc.factorySerial = s.svc.factorySerial ∧
    (countBogieFrame g s).svc.inhibitLatch = s.svc.inhibitLatch ∧
    (countBogieFrame g s).svc.supplyLatch = s.svc.supplyLatch ∧
    (countBogieFrame g s).svc.malformed = s.svc.malformed ∧ (countBogieFrame g s).svc.answer = s.svc.answer ∧
    (countBogieFrame g s).pending = s.pending := by
  unfold countBogieFrame
  dsimp only
  split <;> simp

@[simp] theorem countBodyFrame_frame (g : Bool) (s : State) :
    (countBodyFrame g s).now = s.now ∧ (countBodyFrame g s).odo = s.odo ∧
    (countBodyFrame g s).sns.lastBogie = s.sns.lastBogie ∧ (countBodyFrame g s).sns.lastBody = s.sns.lastBody ∧
    (countBodyFrame g s).sns.bogieHealth = s.sns.bogieHealth ∧ (countBodyFrame g s).sns.window = s.sns.window ∧
    (countBodyFrame g s).sns.counters = s.sns.counters ∧ (countBodyFrame g s).sns.wait = s.sns.wait ∧
    (countBodyFrame g s).sns.request = s.sns.request ∧ (countBodyFrame g s).tsu = s.tsu ∧
    (countBodyFrame g s).portA = s.portA ∧ (countBodyFrame g s).portB = s.portB ∧
    (countBodyFrame g s).rcl = s.rcl ∧ (countBodyFrame g s).src = s.src ∧ (countBodyFrame g s).pvq = s.pvq ∧
    (countBodyFrame g s).xck = s.xck ∧ (countBodyFrame g s).dmd = s.dmd ∧
    (countBodyFrame g s).act.loopGain = s.act.loopGain ∧ (countBodyFrame g s).act.rawSupply = s.act.rawSupply ∧
    (countBodyFrame g s).act.supplyOk = s.act.supplyOk ∧
    (countBodyFrame g s).act.debounceTime = s.act.debounceTime ∧ (countBodyFrame g s).cso = s.cso ∧
    (countBodyFrame g s).svc.startState = s.svc.startState ∧ (countBodyFrame g s).svc.loadTime = s.svc.loadTime ∧
    (countBodyFrame g s).svc.tryTime = s.svc.tryTime ∧ (countBodyFrame g s).svc.config = s.svc.config ∧
    (countBodyFrame g s).svc.unconfigured = s.svc.unconfigured ∧ (countBodyFrame g s).svc.clamped = s.svc.clamped ∧
    (countBodyFrame g s).svc.loadFault = s.svc.loadFault ∧
    (countBodyFrame g s).svc.factorySerial = s.svc.factorySerial ∧
    (countBodyFrame g s).svc.inhibitLatch = s.svc.inhibitLatch ∧
    (countBodyFrame g s).svc.supplyLatch = s.svc.supplyLatch ∧
    (countBodyFrame g s).svc.malformed = s.svc.malformed ∧ (countBodyFrame g s).svc.answer = s.svc.answer ∧
    (countBodyFrame g s).pending = s.pending := by
  unfold countBodyFrame
  dsimp only
  split <;> simp

@[simp] theorem takeBogieFrame_frame (v : Verdict) (s : State) :
    (takeBogieFrame v s).now = s.now ∧ (takeBogieFrame v s).odo = s.odo ∧
    (takeBogieFrame v s).sns.lastBody = s.sns.lastBody ∧ (takeBogieFrame v s).sns.bodyHealth = s.sns.bodyHealth ∧
    (takeBogieFrame v s).sns.wait = s.sns.wait ∧ (takeBogieFrame v s).sns.request = s.sns.request ∧
    (takeBogieFrame v s).portA = s.portA ∧ (takeBogieFrame v s).portB = s.portB ∧
    (takeBogieFrame v s).rcl = s.rcl ∧ (takeBogieFrame v s).src = s.src ∧ (takeBogieFrame v s).pvq = s.pvq ∧
    (takeBogieFrame v s).xck = s.xck ∧ (takeBogieFrame v s).dmd = s.dmd ∧ (takeBogieFrame v s).act = s.act ∧
    (takeBogieFrame v s).cso = s.cso ∧ (takeBogieFrame v s).svc.startState = s.svc.startState ∧
    (takeBogieFrame v s).svc.loadTime = s.svc.loadTime ∧ (takeBogieFrame v s).svc.tryTime = s.svc.tryTime ∧
    (takeBogieFrame v s).svc.config = s.svc.config ∧ (takeBogieFrame v s).svc.unconfigured = s.svc.unconfigured ∧
    (takeBogieFrame v s).svc.clamped = s.svc.clamped ∧ (takeBogieFrame v s).svc.loadFault = s.svc.loadFault ∧
    (takeBogieFrame v s).svc.factorySerial = s.svc.factorySerial ∧
    (takeBogieFrame v s).svc.inhibitLatch = s.svc.inhibitLatch ∧
    (takeBogieFrame v s).svc.supplyLatch = s.svc.supplyLatch ∧
    (takeBogieFrame v s).svc.malformed = s.svc.malformed ∧ (takeBogieFrame v s).svc.answer = s.svc.answer ∧
    (takeBogieFrame v s).pending = s.pending := by
  unfold takeBogieFrame useBogieValue
  split <;> simp

@[simp] theorem takeBodyFrame_frame (v : Verdict) (s : State) :
    (takeBodyFrame v s).now = s.now ∧ (takeBodyFrame v s).odo = s.odo ∧
    (takeBodyFrame v s).sns.lastBogie = s.sns.lastBogie ∧ (takeBodyFrame v s).sns.bogieHealth = s.sns.bogieHealth ∧
    (takeBodyFrame v s).sns.window = s.sns.window ∧ (takeBodyFrame v s).sns.wait = s.sns.wait ∧
    (takeBodyFrame v s).sns.request = s.sns.request ∧ (takeBodyFrame v s).tsu = s.tsu ∧
    (takeBodyFrame v s).portA = s.portA ∧ (takeBodyFrame v s).portB = s.portB ∧ (takeBodyFrame v s).rcl = s.rcl ∧
    (takeBodyFrame v s).src = s.src ∧ (takeBodyFrame v s).pvq = s.pvq ∧ (takeBodyFrame v s).xck = s.xck ∧
    (takeBodyFrame v s).dmd = s.dmd ∧ (takeBodyFrame v s).act.loopGain = s.act.loopGain ∧
    (takeBodyFrame v s).act.rawSupply = s.act.rawSupply ∧ (takeBodyFrame v s).act.supplyOk = s.act.supplyOk ∧
    (takeBodyFrame v s).act.debounceTime = s.act.debounceTime ∧ (takeBodyFrame v s).cso = s.cso ∧
    (takeBodyFrame v s).svc.startState = s.svc.startState ∧ (takeBodyFrame v s).svc.loadTime = s.svc.loadTime ∧
    (takeBodyFrame v s).svc.tryTime = s.svc.tryTime ∧ (takeBodyFrame v s).svc.config = s.svc.config ∧
    (takeBodyFrame v s).svc.unconfigured = s.svc.unconfigured ∧ (takeBodyFrame v s).svc.clamped = s.svc.clamped ∧
    (takeBodyFrame v s).svc.loadFault = s.svc.loadFault ∧
    (takeBodyFrame v s).svc.factorySerial = s.svc.factorySerial ∧
    (takeBodyFrame v s).svc.inhibitLatch = s.svc.inhibitLatch ∧
    (takeBodyFrame v s).svc.supplyLatch = s.svc.supplyLatch ∧ (takeBodyFrame v s).svc.malformed = s.svc.malformed ∧
    (takeBodyFrame v s).svc.answer = s.svc.answer ∧ (takeBodyFrame v s).pending = s.pending := by
  unfold takeBodyFrame
  split <;> simp

@[simp] theorem sendSensorRequest_frame (u : SensorUnit) (s : State) :
    (sendSensorRequest u s).now = s.now ∧ (sendSensorRequest u s).odo = s.odo ∧
    (sendSensorRequest u s).sns.lastBogie = s.sns.lastBogie ∧
    (sendSensorRequest u s).sns.lastBody = s.sns.lastBody ∧
    (sendSensorRequest u s).sns.bogieHealth = s.sns.bogieHealth ∧
    (sendSensorRequest u s).sns.bodyHealth = s.sns.bodyHealth ∧ (sendSensorRequest u s).sns.window = s.sns.window ∧
    (sendSensorRequest u s).sns.counters = s.sns.counters ∧ (sendSensorRequest u s).tsu = s.tsu ∧
    (sendSensorRequest u s).portA = s.portA ∧ (sendSensorRequest u s).portB = s.portB ∧
    (sendSensorRequest u s).rcl = s.rcl ∧ (sendSensorRequest u s).src = s.src ∧
    (sendSensorRequest u s).pvq = s.pvq ∧ (sendSensorRequest u s).xck = s.xck ∧
    (sendSensorRequest u s).dmd = s.dmd ∧ (sendSensorRequest u s).act = s.act ∧
    (sendSensorRequest u s).cso = s.cso ∧ (sendSensorRequest u s).svc = s.svc ∧
    (sendSensorRequest u s).pending = s.pending :=
  ⟨rfl, rfl, rfl, rfl, rfl, rfl, rfl, rfl, rfl, rfl, rfl, rfl, rfl, rfl, rfl, rfl, rfl, rfl, rfl, rfl⟩

@[simp] theorem endBogieExchange_frame (v : Verdict) (s : State) :
    (endBogieExchange v s).now = s.now ∧ (endBogieExchange v s).odo = s.odo ∧
    (endBogieExchange v s).sns.lastBody = s.sns.lastBody ∧
    (endBogieExchange v s).sns.bodyHealth = s.sns.bodyHealth ∧ (endBogieExchange v s).portA = s.portA ∧
    (endBogieExchange v s).portB = s.portB ∧ (endBogieExchange v s).rcl = s.rcl ∧
    (endBogieExchange v s).src = s.src ∧ (endBogieExchange v s).pvq = s.pvq ∧ (endBogieExchange v s).xck = s.xck ∧
    (endBogieExchange v s).dmd = s.dmd ∧ (endBogieExchange v s).act = s.act ∧ (endBogieExchange v s).cso = s.cso ∧
    (endBogieExchange v s).svc.startState = s.svc.startState ∧
    (endBogieExchange v s).svc.loadTime = s.svc.loadTime ∧ (endBogieExchange v s).svc.tryTime = s.svc.tryTime ∧
    (endBogieExchange v s).svc.config = s.svc.config ∧
    (endBogieExchange v s).svc.unconfigured = s.svc.unconfigured ∧
    (endBogieExchange v s).svc.clamped = s.svc.clamped ∧ (endBogieExchange v s).svc.loadFault = s.svc.loadFault ∧
    (endBogieExchange v s).svc.factorySerial = s.svc.factorySerial ∧
    (endBogieExchange v s).svc.inhibitLatch = s.svc.inhibitLatch ∧
    (endBogieExchange v s).svc.supplyLatch = s.svc.supplyLatch ∧
    (endBogieExchange v s).svc.malformed = s.svc.malformed ∧ (endBogieExchange v s).svc.answer = s.svc.answer ∧
    (endBogieExchange v s).pending = s.pending := by
  simp [endBogieExchange]

@[simp] theorem endBodyExchange_frame (v : Verdict) (s : State) :
    (endBodyExchange v s).now = s.now ∧ (endBodyExchange v s).odo = s.odo ∧
    (endBodyExchange v s).sns.lastBogie = s.sns.lastBogie ∧
    (endBodyExchange v s).sns.bogieHealth = s.sns.bogieHealth ∧ (endBodyExchange v s).sns.window = s.sns.window ∧
    (endBodyExchange v s).sns.request = s.sns.request ∧ (endBodyExchange v s).tsu = s.tsu ∧
    (endBodyExchange v s).portA = s.portA ∧ (endBodyExchange v s).portB = s.portB ∧
    (endBodyExchange v s).rcl = s.rcl ∧ (endBodyExchange v s).src = s.src ∧ (endBodyExchange v s).pvq = s.pvq ∧
    (endBodyExchange v s).xck = s.xck ∧ (endBodyExchange v s).dmd = s.dmd ∧
    (endBodyExchange v s).act.loopGain = s.act.loopGain ∧ (endBodyExchange v s).act.rawSupply = s.act.rawSupply ∧
    (endBodyExchange v s).act.supplyOk = s.act.supplyOk ∧
    (endBodyExchange v s).act.debounceTime = s.act.debounceTime ∧ (endBodyExchange v s).cso = s.cso ∧
    (endBodyExchange v s).svc.startState = s.svc.startState ∧ (endBodyExchange v s).svc.loadTime = s.svc.loadTime ∧
    (endBodyExchange v s).svc.tryTime = s.svc.tryTime ∧ (endBodyExchange v s).svc.config = s.svc.config ∧
    (endBodyExchange v s).svc.unconfigured = s.svc.unconfigured ∧
    (endBodyExchange v s).svc.clamped = s.svc.clamped ∧ (endBodyExchange v s).svc.loadFault = s.svc.loadFault ∧
    (endBodyExchange v s).svc.factorySerial = s.svc.factorySerial ∧
    (endBodyExchange v s).svc.inhibitLatch = s.svc.inhibitLatch ∧
    (endBodyExchange v s).svc.supplyLatch = s.svc.supplyLatch ∧
    (endBodyExchange v s).svc.malformed = s.svc.malformed ∧ (endBodyExchange v s).svc.answer = s.svc.answer ∧
    (endBodyExchange v s).pending = s.pending := by
  simp [endBodyExchange]

@[simp] theorem startInterval_frame (s : State) :
    (startInterval s).now = s.now ∧ (startInterval s).odo = s.odo ∧ (startInterval s).sns = s.sns ∧
    (startInterval s).tsu.sequence = s.tsu.sequence ∧ (startInterval s).portA = s.portA ∧
    (startInterval s).portB = s.portB ∧ (startInterval s).rcl = s.rcl ∧ (startInterval s).src = s.src ∧
    (startInterval s).pvq = s.pvq ∧ (startInterval s).xck = s.xck ∧ (startInterval s).dmd = s.dmd ∧
    (startInterval s).act = s.act ∧ (startInterval s).cso = s.cso ∧ (startInterval s).svc = s.svc ∧
    (startInterval s).pending = s.pending :=
  ⟨rfl, rfl, rfl, rfl, rfl, rfl, rfl, rfl, rfl, rfl, rfl, rfl, rfl, rfl, rfl⟩

@[simp] theorem discardInterval_frame (s : State) :
    (discardInterval s).now = s.now ∧ (discardInterval s).odo = s.odo ∧ (discardInterval s).sns = s.sns ∧
    (discardInterval s).tsu.intervalStart = s.tsu.intervalStart ∧
    (discardInterval s).tsu.sequence = s.tsu.sequence ∧ (discardInterval s).portA = s.portA ∧
    (discardInterval s).portB = s.portB ∧ (discardInterval s).rcl = s.rcl ∧ (discardInterval s).src = s.src ∧
    (discardInterval s).pvq = s.pvq ∧ (discardInterval s).xck = s.xck ∧ (discardInterval s).dmd = s.dmd ∧
    (discardInterval s).act = s.act ∧ (discardInterval s).cso = s.cso ∧ (discardInterval s).svc = s.svc ∧
    (discardInterval s).pending = s.pending :=
  ⟨rfl, rfl, rfl, rfl, rfl, rfl, rfl, rfl, rfl, rfl, rfl, rfl, rfl, rfl, rfl, rfl⟩

@[simp] theorem samplePulse_frame (s : State) :
    (samplePulse s).now = s.now ∧ (samplePulse s).odo = s.odo ∧ (samplePulse s).sns = s.sns ∧
    (samplePulse s).rcl = s.rcl ∧ (samplePulse s).src = s.src ∧ (samplePulse s).pvq = s.pvq ∧
    (samplePulse s).xck = s.xck ∧ (samplePulse s).dmd = s.dmd ∧ (samplePulse s).act = s.act ∧
    (samplePulse s).cso = s.cso ∧ (samplePulse s).svc.startState = s.svc.startState ∧
    (samplePulse s).svc.loadTime = s.svc.loadTime ∧ (samplePulse s).svc.tryTime = s.svc.tryTime ∧
    (samplePulse s).svc.config = s.svc.config ∧ (samplePulse s).svc.unconfigured = s.svc.unconfigured ∧
    (samplePulse s).svc.clamped = s.svc.clamped ∧ (samplePulse s).svc.loadFault = s.svc.loadFault ∧
    (samplePulse s).svc.factorySerial = s.svc.factorySerial ∧
    (samplePulse s).svc.inhibitLatch = s.svc.inhibitLatch ∧ (samplePulse s).svc.supplyLatch = s.svc.supplyLatch ∧
    (samplePulse s).svc.malformed = s.svc.malformed ∧ (samplePulse s).svc.answer = s.svc.answer ∧
    (samplePulse s).pending = s.pending := by
  unfold samplePulse publishSample
  split
  · split
    · simp
    · split <;> simp
  · split <;> simp

@[simp] theorem samplePoll_frame (s : State) :
    (samplePoll s).now = s.now ∧ (samplePoll s).odo = s.odo ∧ (samplePoll s).sns = s.sns ∧
    (samplePoll s).portA = s.portA ∧ (samplePoll s).portB = s.portB ∧ (samplePoll s).rcl = s.rcl ∧
    (samplePoll s).src = s.src ∧ (samplePoll s).pvq = s.pvq ∧ (samplePoll s).xck = s.xck ∧
    (samplePoll s).dmd = s.dmd ∧ (samplePoll s).act = s.act ∧ (samplePoll s).cso = s.cso ∧
    (samplePoll s).svc = s.svc ∧ (samplePoll s).pending = s.pending := by
  unfold samplePoll
  split <;> split <;> simp

@[simp] theorem sampleReversal_frame (s : State) :
    (sampleReversal s).now = s.now ∧ (sampleReversal s).odo = s.odo ∧ (sampleReversal s).sns = s.sns ∧
    (sampleReversal s).tsu.intervalStart = s.tsu.intervalStart ∧ (sampleReversal s).tsu.sequence = s.tsu.sequence ∧
    (sampleReversal s).portA = s.portA ∧ (sampleReversal s).portB = s.portB ∧ (sampleReversal s).rcl = s.rcl ∧
    (sampleReversal s).src = s.src ∧ (sampleReversal s).pvq = s.pvq ∧ (sampleReversal s).xck = s.xck ∧
    (sampleReversal s).dmd = s.dmd ∧ (sampleReversal s).act = s.act ∧ (sampleReversal s).cso = s.cso ∧
    (sampleReversal s).svc = s.svc ∧ (sampleReversal s).pending = s.pending := by
  unfold sampleReversal
  split <;> simp

@[simp] theorem announceReversal_frame (b : Bool) (s : State) :
    (announceReversal b s).now = s.now ∧ (announceReversal b s).odo = s.odo ∧ (announceReversal b s).sns = s.sns ∧
    (announceReversal b s).tsu.intervalStart = s.tsu.intervalStart ∧
    (announceReversal b s).tsu.sequence = s.tsu.sequence ∧ (announceReversal b s).portA = s.portA ∧
    (announceReversal b s).portB = s.portB ∧ (announceReversal b s).rcl = s.rcl ∧
    (announceReversal b s).pvq.countsP = s.pvq.countsP ∧ (announceReversal b s).pvq.countsS = s.pvq.countsS ∧
    (announceReversal b s).pvq.lastLookup = s.pvq.lastLookup ∧
    (announceReversal b s).xck.threshold = s.xck.threshold ∧ (announceReversal b s).xck.agreed = s.xck.agreed ∧
    (announceReversal b s).xck.disagreed = s.xck.disagreed ∧
    (announceReversal b s).xck.unmatched = s.xck.unmatched ∧
    (announceReversal b s).xck.latchSettings = s.xck.latchSettings ∧ (announceReversal b s).dmd.mode = s.dmd.mode ∧
    (announceReversal b s).dmd.lastCause = s.dmd.lastCause ∧
    (announceReversal b s).dmd.lookahead = s.dmd.lookahead ∧
    (announceReversal b s).dmd.lookaheadPoint = s.dmd.lookaheadPoint ∧
    (announceReversal b s).dmd.lastOdometer = s.dmd.lastOdometer ∧
    (announceReversal b s).dmd.standing = s.dmd.standing ∧
    (announceReversal b s).dmd.heldDemand = s.dmd.heldDemand ∧
    (announceReversal b s).dmd.lastDemand = s.dmd.lastDemand ∧ (announceReversal b s).dmd.target = s.dmd.target ∧
    (announceReversal b s).dmd.command = s.dmd.command ∧
    (announceReversal b s).dmd.localInhibit = s.dmd.localInhibit ∧ (announceReversal b s).act = s.act ∧
    (announceReversal b s).cso = s.cso ∧ (announceReversal b s).svc.startState = s.svc.startState ∧
    (announceReversal b s).svc.loadTime = s.svc.loadTime ∧ (announceReversal b s).svc.tryTime = s.svc.tryTime ∧
    (announceReversal b s).svc.config = s.svc.config ∧
    (announceReversal b s).svc.unconfigured = s.svc.unconfigured ∧
    (announceReversal b s).svc.clamped = s.svc.clamped ∧ (announceReversal b s).svc.loadFault = s.svc.loadFault ∧
    (announceReversal b s).svc.factorySerial = s.svc.factorySerial ∧
    (announceReversal b s).svc.inhibitLatch = s.svc.inhibitLatch ∧
    (announceReversal b s).svc.supplyLatch = s.svc.supplyLatch ∧
    (announceReversal b s).svc.malformed = s.svc.malformed ∧ (announceReversal b s).svc.answer = s.svc.answer ∧
    (announceReversal b s).pending = s.pending := by
  unfold announceReversal demandReversal
  dsimp only
  split <;> simp

@[simp] theorem tachometerPulse_frame (d : Direction) (b : Bool) (s : State) :
    (tachometerPulse d b s).now = s.now ∧ (tachometerPulse d b s).sns = s.sns ∧
    (tachometerPulse d b s).rcl = s.rcl ∧ (tachometerPulse d b s).pvq.countsP = s.pvq.countsP ∧
    (tachometerPulse d b s).pvq.countsS = s.pvq.countsS ∧
    (tachometerPulse d b s).pvq.lastLookup = s.pvq.lastLookup ∧
    (tachometerPulse d b s).xck.threshold = s.xck.threshold ∧ (tachometerPulse d b s).xck.agreed = s.xck.agreed ∧
    (tachometerPulse d b s).xck.disagreed = s.xck.disagreed ∧
    (tachometerPulse d b s).xck.unmatched = s.xck.unmatched ∧
    (tachometerPulse d b s).xck.latchSettings = s.xck.latchSettings ∧
    (tachometerPulse d b s).dmd.mode = s.dmd.mode ∧ (tachometerPulse d b s).dmd.lastCause = s.dmd.lastCause ∧
    (tachometerPulse d b s).dmd.lookahead = s.dmd.lookahead ∧
    (tachometerPulse d b s).dmd.lookaheadPoint = s.dmd.lookaheadPoint ∧
    (tachometerPulse d b s).dmd.lastOdometer = s.dmd.lastOdometer ∧
    (tachometerPulse d b s).dmd.standing = s.dmd.standing ∧
    (tachometerPulse d b s).dmd.heldDemand = s.dmd.heldDemand ∧
    (tachometerPulse d b s).dmd.lastDemand = s.dmd.lastDemand ∧ (tachometerPulse d b s).dmd.target = s.dmd.target ∧
    (tachometerPulse d b s).dmd.command = s.dmd.command ∧
    (tachometerPulse d b s).dmd.localInhibit = s.dmd.localInhibit ∧ (tachometerPulse d b s).act = s.act ∧
    (tachometerPulse d b s).cso = s.cso ∧ (tachometerPulse d b s).svc.startState = s.svc.startState ∧
    (tachometerPulse d b s).svc.loadTime = s.svc.loadTime ∧ (tachometerPulse d b s).svc.tryTime = s.svc.tryTime ∧
    (tachometerPulse d b s).svc.config = s.svc.config ∧
    (tachometerPulse d b s).svc.unconfigured = s.svc.unconfigured ∧
    (tachometerPulse d b s).svc.clamped = s.svc.clamped ∧ (tachometerPulse d b s).svc.loadFault = s.svc.loadFault ∧
    (tachometerPulse d b s).svc.factorySerial = s.svc.factorySerial ∧
    (tachometerPulse d b s).svc.inhibitLatch = s.svc.inhibitLatch ∧
    (tachometerPulse d b s).svc.supplyLatch = s.svc.supplyLatch ∧
    (tachometerPulse d b s).svc.malformed = s.svc.malformed ∧ (tachometerPulse d b s).svc.answer = s.svc.answer ∧
    (tachometerPulse d b s).pending = s.pending := by
  unfold tachometerPulse
  dsimp only
  split <;> simp

@[simp] theorem pollSensors_frame (s : State) :
    (pollSensors s).now = s.now ∧ (pollSensors s).sns.lastBogie = s.sns.lastBogie ∧
    (pollSensors s).sns.lastBody = s.sns.lastBody ∧ (pollSensors s).sns.bogieHealth = s.sns.bogieHealth ∧
    (pollSensors s).sns.bodyHealth = s.sns.bodyHealth ∧ (pollSensors s).sns.window = s.sns.window ∧
    (pollSensors s).sns.counters = s.sns.counters ∧ (pollSensors s).portA = s.portA ∧
    (pollSensors s).portB = s.portB ∧ (pollSensors s).rcl = s.rcl ∧ (pollSensors s).src = s.src ∧
    (pollSensors s).pvq = s.pvq ∧ (pollSensors s).xck = s.xck ∧ (pollSensors s).dmd = s.dmd ∧
    (pollSensors s).act = s.act ∧ (pollSensors s).cso = s.cso ∧ (pollSensors s).svc = s.svc ∧
    (pollSensors s).pending = s.pending := by
  simp [pollSensors]

@[simp] theorem workLookahead_frame (s : State) :
    (workLookahead s).now = s.now ∧ (workLookahead s).odo = s.odo ∧ (workLookahead s).sns = s.sns ∧
    (workLookahead s).tsu = s.tsu ∧ (workLookahead s).portA = s.portA ∧ (workLookahead s).portB = s.portB ∧
    (workLookahead s).rcl = s.rcl ∧ (workLookahead s).src = s.src ∧ (workLookahead s).pvq = s.pvq ∧
    (workLookahead s).xck = s.xck ∧ (workLookahead s).dmd.mode = s.dmd.mode ∧
    (workLookahead s).dmd.lastCause = s.dmd.lastCause ∧ (workLookahead s).dmd.lastOdometer = s.dmd.lastOdometer ∧
    (workLookahead s).dmd.standing = s.dmd.standing ∧ (workLookahead s).dmd.holdRemainder = s.dmd.holdRemainder ∧
    (workLookahead s).dmd.heldDemand = s.dmd.heldDemand ∧ (workLookahead s).dmd.lastDemand = s.dmd.lastDemand ∧
    (workLookahead s).dmd.target = s.dmd.target ∧ (workLookahead s).dmd.command = s.dmd.command ∧
    (workLookahead s).dmd.localInhibit = s.dmd.localInhibit ∧ (workLookahead s).act = s.act ∧
    (workLookahead s).cso = s.cso ∧ (workLookahead s).svc = s.svc ∧ (workLookahead s).pending = s.pending :=
  ⟨rfl, rfl, rfl, rfl, rfl, rfl, rfl, rfl, rfl, rfl, rfl, rfl, rfl, rfl, rfl, rfl, rfl, rfl, rfl, rfl, rfl,
   rfl, rfl, rfl⟩

@[simp] theorem consumeQueues_frame (p : Distance) (s : State) :
    (consumeQueues p s).now = s.now ∧ (consumeQueues p s).odo = s.odo ∧ (consumeQueues p s).sns = s.sns ∧
    (consumeQueues p s).tsu = s.tsu ∧ (consumeQueues p s).portA = s.portA ∧ (consumeQueues p s).portB = s.portB ∧
    (consumeQueues p s).rcl = s.rcl ∧ (consumeQueues p s).src = s.src ∧
    (consumeQueues p s).pvq.countsP = s.pvq.countsP ∧ (consumeQueues p s).pvq.countsS = s.pvq.countsS ∧
    (consumeQueues p s).pvq.lastLookup = s.pvq.lastLookup ∧ (consumeQueues p s).xck = s.xck ∧
    (consumeQueues p s).dmd = s.dmd ∧ (consumeQueues p s).act = s.act ∧ (consumeQueues p s).cso = s.cso ∧
    (consumeQueues p s).svc = s.svc ∧ (consumeQueues p s).pending = s.pending :=
  ⟨rfl, rfl, rfl, rfl, rfl, rfl, rfl, rfl, rfl, rfl, rfl, rfl, rfl, rfl, rfl, rfl, rfl⟩

@[simp] theorem workPreview_frame (s : State) :
    (workPreview s).now = s.now ∧ (workPreview s).odo = s.odo ∧ (workPreview s).sns = s.sns ∧
    (workPreview s).tsu = s.tsu ∧ (workPreview s).portA = s.portA ∧ (workPreview s).portB = s.portB ∧
    (workPreview s).rcl = s.rcl ∧ (workPreview s).pvq.countsP = s.pvq.countsP ∧
    (workPreview s).pvq.countsS = s.pvq.countsS ∧ (workPreview s).xck.threshold = s.xck.threshold ∧
    (workPreview s).xck.agreed = s.xck.agreed ∧ (workPreview s).xck.disagreed = s.xck.disagreed ∧
    (workPreview s).xck.unmatched = s.xck.unmatched ∧ (workPreview s).xck.latchSettings = s.xck.latchSettings ∧
    (workPreview s).dmd = s.dmd ∧ (workPreview s).act = s.act ∧ (workPreview s).cso = s.cso ∧
    (workPreview s).svc.startState = s.svc.startState ∧ (workPreview s).svc.loadTime = s.svc.loadTime ∧
    (workPreview s).svc.tryTime = s.svc.tryTime ∧ (workPreview s).svc.config = s.svc.config ∧
    (workPreview s).svc.unconfigured = s.svc.unconfigured ∧ (workPreview s).svc.clamped = s.svc.clamped ∧
    (workPreview s).svc.loadFault = s.svc.loadFault ∧ (workPreview s).svc.factorySerial = s.svc.factorySerial ∧
    (workPreview s).svc.inhibitLatch = s.svc.inhibitLatch ∧ (workPreview s).svc.supplyLatch = s.svc.supplyLatch ∧
    (workPreview s).svc.malformed = s.svc.malformed ∧ (workPreview s).svc.answer = s.svc.answer ∧
    (workPreview s).pending = s.pending := by
  simp [workPreview]

@[simp] theorem workHold_frame (s : State) :
    (workHold s).now = s.now ∧ (workHold s).odo = s.odo ∧ (workHold s).sns = s.sns ∧ (workHold s).tsu = s.tsu ∧
    (workHold s).portA = s.portA ∧ (workHold s).portB = s.portB ∧ (workHold s).rcl = s.rcl ∧
    (workHold s).src = s.src ∧ (workHold s).pvq = s.pvq ∧ (workHold s).xck = s.xck ∧
    (workHold s).dmd.mode = s.dmd.mode ∧ (workHold s).dmd.lastCause = s.dmd.lastCause ∧
    (workHold s).dmd.lookahead = s.dmd.lookahead ∧ (workHold s).dmd.lookaheadPoint = s.dmd.lookaheadPoint ∧
    (workHold s).dmd.lastOdometer = s.dmd.lastOdometer ∧ (workHold s).dmd.standing = s.dmd.standing ∧
    (workHold s).dmd.heldDemand = s.dmd.heldDemand ∧ (workHold s).dmd.lastDemand = s.dmd.lastDemand ∧
    (workHold s).dmd.target = s.dmd.target ∧ (workHold s).dmd.command = s.dmd.command ∧
    (workHold s).dmd.localInhibit = s.dmd.localInhibit ∧ (workHold s).act = s.act ∧ (workHold s).cso = s.cso ∧
    (workHold s).svc = s.svc ∧ (workHold s).pending = s.pending := by
  unfold workHold
  split <;> simp

@[simp] theorem workHoldChange_frame (m n : TiltMode) (s : State) :
    (workHoldChange m n s).now = s.now ∧ (workHoldChange m n s).odo = s.odo ∧ (workHoldChange m n s).sns = s.sns ∧
    (workHoldChange m n s).tsu = s.tsu ∧ (workHoldChange m n s).portA = s.portA ∧
    (workHoldChange m n s).portB = s.portB ∧ (workHoldChange m n s).rcl = s.rcl ∧
    (workHoldChange m n s).src = s.src ∧ (workHoldChange m n s).pvq = s.pvq ∧ (workHoldChange m n s).xck = s.xck ∧
    (workHoldChange m n s).dmd.mode = s.dmd.mode ∧ (workHoldChange m n s).dmd.lastCause = s.dmd.lastCause ∧
    (workHoldChange m n s).dmd.lookahead = s.dmd.lookahead ∧
    (workHoldChange m n s).dmd.lookaheadPoint = s.dmd.lookaheadPoint ∧
    (workHoldChange m n s).dmd.lastOdometer = s.dmd.lastOdometer ∧
    (workHoldChange m n s).dmd.standing = s.dmd.standing ∧
    (workHoldChange m n s).dmd.lastDemand = s.dmd.lastDemand ∧ (workHoldChange m n s).dmd.target = s.dmd.target ∧
    (workHoldChange m n s).dmd.command = s.dmd.command ∧
    (workHoldChange m n s).dmd.localInhibit = s.dmd.localInhibit ∧ (workHoldChange m n s).act = s.act ∧
    (workHoldChange m n s).cso = s.cso ∧ (workHoldChange m n s).svc = s.svc ∧
    (workHoldChange m n s).pending = s.pending := by
  unfold workHoldChange
  split
  · simp
  · split <;> simp

@[simp] theorem takeMode_frame (c : TiltMode × ModeCause) (s : State) :
    (takeMode c s).now = s.now ∧ (takeMode c s).odo = s.odo ∧ (takeMode c s).sns = s.sns ∧
    (takeMode c s).tsu = s.tsu ∧ (takeMode c s).portA = s.portA ∧ (takeMode c s).portB = s.portB ∧
    (takeMode c s).rcl = s.rcl ∧ (takeMode c s).src = s.src ∧ (takeMode c s).pvq = s.pvq ∧
    (takeMode c s).xck = s.xck ∧ (takeMode c s).dmd.lookahead = s.dmd.lookahead ∧
    (takeMode c s).dmd.lookaheadPoint = s.dmd.lookaheadPoint ∧
    (takeMode c s).dmd.lastOdometer = s.dmd.lastOdometer ∧ (takeMode c s).dmd.standing = s.dmd.standing ∧
    (takeMode c s).dmd.lastDemand = s.dmd.lastDemand ∧ (takeMode c s).dmd.target = s.dmd.target ∧
    (takeMode c s).dmd.command = s.dmd.command ∧ (takeMode c s).dmd.localInhibit = s.dmd.localInhibit ∧
    (takeMode c s).act = s.act ∧ (takeMode c s).cso = s.cso ∧ (takeMode c s).svc.startState = s.svc.startState ∧
    (takeMode c s).svc.loadTime = s.svc.loadTime ∧ (takeMode c s).svc.tryTime = s.svc.tryTime ∧
    (takeMode c s).svc.config = s.svc.config ∧ (takeMode c s).svc.unconfigured = s.svc.unconfigured ∧
    (takeMode c s).svc.clamped = s.svc.clamped ∧ (takeMode c s).svc.loadFault = s.svc.loadFault ∧
    (takeMode c s).svc.factorySerial = s.svc.factorySerial ∧ (takeMode c s).svc.inhibitLatch = s.svc.inhibitLatch ∧
    (takeMode c s).svc.supplyLatch = s.svc.supplyLatch ∧ (takeMode c s).svc.malformed = s.svc.malformed ∧
    (takeMode c s).svc.answer = s.svc.answer ∧ (takeMode c s).pending = s.pending := by
  unfold takeMode
  split <;> simp

@[simp] theorem workMode_frame (s : State) :
    (workMode s).now = s.now ∧ (workMode s).odo = s.odo ∧ (workMode s).sns = s.sns ∧ (workMode s).tsu = s.tsu ∧
    (workMode s).portA = s.portA ∧ (workMode s).portB = s.portB ∧ (workMode s).rcl = s.rcl ∧
    (workMode s).src = s.src ∧ (workMode s).pvq = s.pvq ∧ (workMode s).xck = s.xck ∧
    (workMode s).dmd.lookahead = s.dmd.lookahead ∧ (workMode s).dmd.lookaheadPoint = s.dmd.lookaheadPoint ∧
    (workMode s).dmd.lastOdometer = s.dmd.lastOdometer ∧ (workMode s).dmd.lastDemand = s.dmd.lastDemand ∧
    (workMode s).dmd.target = s.dmd.target ∧ (workMode s).dmd.command = s.dmd.command ∧
    (workMode s).dmd.localInhibit = s.dmd.localInhibit ∧ (workMode s).act = s.act ∧ (workMode s).cso = s.cso ∧
    (workMode s).svc.startState = s.svc.startState ∧ (workMode s).svc.loadTime = s.svc.loadTime ∧
    (workMode s).svc.tryTime = s.svc.tryTime ∧ (workMode s).svc.config = s.svc.config ∧
    (workMode s).svc.unconfigured = s.svc.unconfigured ∧ (workMode s).svc.clamped = s.svc.clamped ∧
    (workMode s).svc.loadFault = s.svc.loadFault ∧ (workMode s).svc.factorySerial = s.svc.factorySerial ∧
    (workMode s).svc.inhibitLatch = s.svc.inhibitLatch ∧ (workMode s).svc.supplyLatch = s.svc.supplyLatch ∧
    (workMode s).svc.malformed = s.svc.malformed ∧ (workMode s).svc.answer = s.svc.answer ∧
    (workMode s).pending = s.pending := by
  simp [workMode]

@[simp] theorem workDemand_frame (s : State) :
    (workDemand s).now = s.now ∧ (workDemand s).odo = s.odo ∧ (workDemand s).sns = s.sns ∧
    (workDemand s).tsu = s.tsu ∧ (workDemand s).portA = s.portA ∧ (workDemand s).portB = s.portB ∧
    (workDemand s).rcl = s.rcl ∧ (workDemand s).src = s.src ∧ (workDemand s).pvq = s.pvq ∧
    (workDemand s).xck = s.xck ∧ (workDemand s).dmd.mode = s.dmd.mode ∧
    (workDemand s).dmd.lastCause = s.dmd.lastCause ∧ (workDemand s).dmd.lookahead = s.dmd.lookahead ∧
    (workDemand s).dmd.lookaheadPoint = s.dmd.lookaheadPoint ∧
    (workDemand s).dmd.lastOdometer = s.dmd.lastOdometer ∧ (workDemand s).dmd.standing = s.dmd.standing ∧
    (workDemand s).dmd.holdRemainder = s.dmd.holdRemainder ∧ (workDemand s).dmd.heldDemand = s.dmd.heldDemand ∧
    (workDemand s).dmd.target = s.dmd.target ∧ (workDemand s).dmd.command = s.dmd.command ∧
    (workDemand s).dmd.localInhibit = s.dmd.localInhibit ∧ (workDemand s).act = s.act ∧
    (workDemand s).cso = s.cso ∧ (workDemand s).svc = s.svc ∧ (workDemand s).pending = s.pending :=
  ⟨rfl, rfl, rfl, rfl, rfl, rfl, rfl, rfl, rfl, rfl, rfl, rfl, rfl, rfl, rfl, rfl, rfl, rfl, rfl, rfl, rfl,
   rfl, rfl, rfl, rfl⟩

@[simp] theorem workTarget_frame (s : State) :
    (workTarget s).now = s.now ∧ (workTarget s).odo = s.odo ∧ (workTarget s).sns = s.sns ∧
    (workTarget s).tsu = s.tsu ∧ (workTarget s).portA = s.portA ∧ (workTarget s).portB = s.portB ∧
    (workTarget s).rcl = s.rcl ∧ (workTarget s).src = s.src ∧ (workTarget s).pvq = s.pvq ∧
    (workTarget s).xck = s.xck ∧ (workTarget s).dmd.mode = s.dmd.mode ∧
    (workTarget s).dmd.lastCause = s.dmd.lastCause ∧ (workTarget s).dmd.lookahead = s.dmd.lookahead ∧
    (workTarget s).dmd.lookaheadPoint = s.dmd.lookaheadPoint ∧
    (workTarget s).dmd.lastOdometer = s.dmd.lastOdometer ∧ (workTarget s).dmd.standing = s.dmd.standing ∧
    (workTarget s).dmd.holdRemainder = s.dmd.holdRemainder ∧ (workTarget s).dmd.heldDemand = s.dmd.heldDemand ∧
    (workTarget s).dmd.lastDemand = s.dmd.lastDemand ∧ (workTarget s).dmd.command = s.dmd.command ∧
    (workTarget s).dmd.localInhibit = s.dmd.localInhibit ∧ (workTarget s).act = s.act ∧
    (workTarget s).cso = s.cso ∧ (workTarget s).svc = s.svc ∧ (workTarget s).pending = s.pending :=
  ⟨rfl, rfl, rfl, rfl, rfl, rfl, rfl, rfl, rfl, rfl, rfl, rfl, rfl, rfl, rfl, rfl, rfl, rfl, rfl, rfl, rfl,
   rfl, rfl, rfl, rfl⟩

@[simp] theorem workCommand_frame (s : State) :
    (workCommand s).now = s.now ∧ (workCommand s).odo = s.odo ∧ (workCommand s).sns = s.sns ∧
    (workCommand s).tsu = s.tsu ∧ (workCommand s).portA = s.portA ∧ (workCommand s).portB = s.portB ∧
    (workCommand s).rcl = s.rcl ∧ (workCommand s).src = s.src ∧ (workCommand s).pvq = s.pvq ∧
    (workCommand s).xck = s.xck ∧ (workCommand s).dmd.mode = s.dmd.mode ∧
    (workCommand s).dmd.lastCause = s.dmd.lastCause ∧ (workCommand s).dmd.lookahead = s.dmd.lookahead ∧
    (workCommand s).dmd.lookaheadPoint = s.dmd.lookaheadPoint ∧
    (workCommand s).dmd.lastOdometer = s.dmd.lastOdometer ∧ (workCommand s).dmd.standing = s.dmd.standing ∧
    (workCommand s).dmd.holdRemainder = s.dmd.holdRemainder ∧ (workCommand s).dmd.heldDemand = s.dmd.heldDemand ∧
    (workCommand s).dmd.lastDemand = s.dmd.lastDemand ∧ (workCommand s).dmd.target = s.dmd.target ∧
    (workCommand s).dmd.localInhibit = s.dmd.localInhibit ∧ (workCommand s).act = s.act ∧
    (workCommand s).cso = s.cso ∧ (workCommand s).svc = s.svc ∧ (workCommand s).pending = s.pending :=
  ⟨rfl, rfl, rfl, rfl, rfl, rfl, rfl, rfl, rfl, rfl, rfl, rfl, rfl, rfl, rfl, rfl, rfl, rfl, rfl, rfl, rfl,
   rfl, rfl, rfl, rfl⟩

@[simp] theorem workHand_frame (s : State) :
    (workHand s).now = s.now ∧ (workHand s).odo = s.odo ∧ (workHand s).sns = s.sns ∧ (workHand s).tsu = s.tsu ∧
    (workHand s).portA = s.portA ∧ (workHand s).portB = s.portB ∧ (workHand s).rcl = s.rcl ∧
    (workHand s).src = s.src ∧ (workHand s).pvq = s.pvq ∧ (workHand s).xck = s.xck ∧
    (workHand s).dmd.mode = s.dmd.mode ∧ (workHand s).dmd.lastCause = s.dmd.lastCause ∧
    (workHand s).dmd.lookahead = s.dmd.lookahead ∧ (workHand s).dmd.lookaheadPoint = s.dmd.lookaheadPoint ∧
    (workHand s).dmd.standing = s.dmd.standing ∧ (workHand s).dmd.holdRemainder = s.dmd.holdRemainder ∧
    (workHand s).dmd.heldDemand = s.dmd.heldDemand ∧ (workHand s).dmd.lastDemand = s.dmd.lastDemand ∧
    (workHand s).dmd.target = s.dmd.target ∧ (workHand s).dmd.command = s.dmd.command ∧
    (workHand s).dmd.localInhibit = s.dmd.localInhibit ∧ (workHand s).act.loopGain = s.act.loopGain ∧
    (workHand s).act.rawSupply = s.act.rawSupply ∧ (workHand s).act.supplyOk = s.act.supplyOk ∧
    (workHand s).act.debounceTime = s.act.debounceTime ∧ (workHand s).cso = s.cso ∧
    (workHand s).svc.startState = s.svc.startState ∧ (workHand s).svc.loadTime = s.svc.loadTime ∧
    (workHand s).svc.tryTime = s.svc.tryTime ∧ (workHand s).svc.config = s.svc.config ∧
    (workHand s).svc.unconfigured = s.svc.unconfigured ∧ (workHand s).svc.clamped = s.svc.clamped ∧
    (workHand s).svc.loadFault = s.svc.loadFault ∧ (workHand s).svc.factorySerial = s.svc.factorySerial ∧
    (workHand s).svc.inhibitLatch = s.svc.inhibitLatch ∧ (workHand s).svc.supplyLatch = s.svc.supplyLatch ∧
    (workHand s).svc.malformed = s.svc.malformed ∧ (workHand s).svc.answer = s.svc.answer ∧
    (workHand s).pending = s.pending := by
  simp [workHand]

@[simp] theorem controlExpiry_frame (s : State) :
    (controlExpiry s).now = s.now ∧ (controlExpiry s).sns = s.sns ∧ (controlExpiry s).tsu = s.tsu ∧
    (controlExpiry s).portA = s.portA ∧ (controlExpiry s).portB = s.portB ∧ (controlExpiry s).rcl = s.rcl ∧
    (controlExpiry s).pvq.countsP = s.pvq.countsP ∧ (controlExpiry s).pvq.countsS = s.pvq.countsS ∧
    (controlExpiry s).xck.threshold = s.xck.threshold ∧ (controlExpiry s).xck.agreed = s.xck.agreed ∧
    (controlExpiry s).xck.disagreed = s.xck.disagreed ∧ (controlExpiry s).xck.unmatched = s.xck.unmatched ∧
    (controlExpiry s).xck.latchSettings = s.xck.latchSettings ∧
    (controlExpiry s).dmd.localInhibit = s.dmd.localInhibit ∧ (controlExpiry s).act.loopGain = s.act.loopGain ∧
    (controlExpiry s).act.rawSupply = s.act.rawSupply ∧ (controlExpiry s).act.supplyOk = s.act.supplyOk ∧
    (controlExpiry s).act.debounceTime = s.act.debounceTime ∧ (controlExpiry s).cso = s.cso ∧
    (controlExpiry s).svc.startState = s.svc.startState ∧ (controlExpiry s).svc.loadTime = s.svc.loadTime ∧
    (controlExpiry s).svc.tryTime = s.svc.tryTime ∧ (controlExpiry s).svc.config = s.svc.config ∧
    (controlExpiry s).svc.unconfigured = s.svc.unconfigured ∧ (controlExpiry s).svc.clamped = s.svc.clamped ∧
    (controlExpiry s).svc.loadFault = s.svc.loadFault ∧ (controlExpiry s).svc.factorySerial = s.svc.factorySerial ∧
    (controlExpiry s).svc.inhibitLatch = s.svc.inhibitLatch ∧
    (controlExpiry s).svc.supplyLatch = s.svc.supplyLatch ∧ (controlExpiry s).svc.malformed = s.svc.malformed ∧
    (controlExpiry s).svc.answer = s.svc.answer ∧ (controlExpiry s).pending = s.pending := by
  unfold controlExpiry
  dsimp only
  split <;> simp

@[simp] theorem handRecord_frame (o : LoadOutcome) (s : State) :
    (handRecord o s).now = s.now ∧ (handRecord o s).sns = s.sns ∧ (handRecord o s).tsu = s.tsu ∧
    (handRecord o s).portA = s.portA ∧ (handRecord o s).portB = s.portB ∧ (handRecord o s).rcl = s.rcl ∧
    (handRecord o s).src = s.src ∧ (handRecord o s).pvq = s.pvq ∧
    (handRecord o s).xck.splitCounter = s.xck.splitCounter ∧ (handRecord o s).xck.splitLatch = s.xck.splitLatch ∧
    (handRecord o s).xck.agreed = s.xck.agreed ∧ (handRecord o s).xck.disagreed = s.xck.disagreed ∧
    (handRecord o s).xck.unmatched = s.xck.unmatched ∧ (handRecord o s).xck.latchSettings = s.xck.latchSettings ∧
    (handRecord o s).dmd = s.dmd ∧ (handRecord o s).act.rawSupply = s.act.rawSupply ∧
    (handRecord o s).act.supplyOk = s.act.supplyOk ∧ (handRecord o s).act.debounceTime = s.act.debounceTime ∧
    (handRecord o s).cso.carStateTimer = s.cso.carStateTimer ∧ (handRecord o s).cso.neighbourA = s.cso.neighbourA ∧
    (handRecord o s).cso.neighbourB = s.cso.neighbourB ∧ (handRecord o s).cso.rawInhibit = s.cso.rawInhibit ∧
    (handRecord o s).cso.inhibit = s.cso.inhibit ∧ (handRecord o s).cso.debounceTime = s.cso.debounceTime ∧
    (handRecord o s).cso.orderInhibit = s.cso.orderInhibit ∧ (handRecord o s).svc.startState = s.svc.startState ∧
    (handRecord o s).svc.loadTime = s.svc.loadTime ∧ (handRecord o s).svc.tryTime = s.svc.tryTime ∧
    (handRecord o s).svc.factorySerial = s.svc.factorySerial ∧
    (handRecord o s).svc.inhibitLatch = s.svc.inhibitLatch ∧ (handRecord o s).svc.supplyLatch = s.svc.supplyLatch ∧
    (handRecord o s).svc.malformed = s.svc.malformed ∧ (handRecord o s).svc.answer = s.svc.answer ∧
    (handRecord o s).pending = s.pending := by
  simp [handRecord]

@[simp] theorem endStart_frame (b : Bool) (s : State) :
    (endStart b s).now = s.now ∧ (endStart b s).odo = s.odo ∧ (endStart b s).sns = s.sns ∧
    (endStart b s).tsu = s.tsu ∧ (endStart b s).src = s.src ∧ (endStart b s).pvq = s.pvq ∧
    (endStart b s).xck = s.xck ∧ (endStart b s).dmd = s.dmd ∧ (endStart b s).act = s.act ∧
    (endStart b s).cso.neighbourA = s.cso.neighbourA ∧ (endStart b s).cso.neighbourB = s.cso.neighbourB ∧
    (endStart b s).cso.rawInhibit = s.cso.rawInhibit ∧ (endStart b s).cso.inhibit = s.cso.inhibit ∧
    (endStart b s).cso.debounceTime = s.cso.debounceTime ∧ (endStart b s).cso.unitInUse = s.cso.unitInUse ∧
    (endStart b s).cso.orderInhibit = s.cso.orderInhibit ∧ (endStart b s).svc.loadTime = s.svc.loadTime ∧
    (endStart b s).svc.tryTime = s.svc.tryTime ∧ (endStart b s).svc.config = s.svc.config ∧
    (endStart b s).svc.unconfigured = s.svc.unconfigured ∧ (endStart b s).svc.clamped = s.svc.clamped ∧
    (endStart b s).svc.loadFault = s.svc.loadFault ∧ (endStart b s).svc.factorySerial = s.svc.factorySerial ∧
    (endStart b s).svc.inhibitLatch = s.svc.inhibitLatch ∧ (endStart b s).svc.supplyLatch = s.svc.supplyLatch ∧
    (endStart b s).svc.malformed = s.svc.malformed ∧ (endStart b s).svc.answer = s.svc.answer ∧
    (endStart b s).pending = s.pending := by
  unfold endStart
  dsimp only
  split <;> simp

@[simp] theorem answerDone_frame (c : Byte) (d : List Byte) (s : State) :
    (answerDone c d s).now = s.now ∧ (answerDone c d s).odo = s.odo ∧ (answerDone c d s).sns = s.sns ∧
    (answerDone c d s).tsu = s.tsu ∧ (answerDone c d s).portA = s.portA ∧ (answerDone c d s).portB = s.portB ∧
    (answerDone c d s).rcl = s.rcl ∧ (answerDone c d s).src = s.src ∧ (answerDone c d s).pvq = s.pvq ∧
    (answerDone c d s).xck = s.xck ∧ (answerDone c d s).dmd = s.dmd ∧ (answerDone c d s).act = s.act ∧
    (answerDone c d s).cso = s.cso ∧ (answerDone c d s).svc.startState = s.svc.startState ∧
    (answerDone c d s).svc.loadTime = s.svc.loadTime ∧ (answerDone c d s).svc.tryTime = s.svc.tryTime ∧
    (answerDone c d s).svc.config = s.svc.config ∧ (answerDone c d s).svc.unconfigured = s.svc.unconfigured ∧
    (answerDone c d s).svc.clamped = s.svc.clamped ∧ (answerDone c d s).svc.loadFault = s.svc.loadFault ∧
    (answerDone c d s).svc.factorySerial = s.svc.factorySerial ∧ (answerDone c d s).svc.events = s.svc.events ∧
    (answerDone c d s).svc.inhibitLatch = s.svc.inhibitLatch ∧
    (answerDone c d s).svc.supplyLatch = s.svc.supplyLatch ∧ (answerDone c d s).svc.malformed = s.svc.malformed ∧
    (answerDone c d s).pending = s.pending := by
  simp [answerDone, answer]

@[simp] theorem answerRefused_frame (c : Byte) (r : RefusalReason) (s : State) :
    (answerRefused c r s).now = s.now ∧ (answerRefused c r s).odo = s.odo ∧ (answerRefused c r s).sns = s.sns ∧
    (answerRefused c r s).tsu = s.tsu ∧ (answerRefused c r s).portA = s.portA ∧
    (answerRefused c r s).portB = s.portB ∧ (answerRefused c r s).rcl = s.rcl ∧ (answerRefused c r s).src = s.src ∧
    (answerRefused c r s).pvq = s.pvq ∧ (answerRefused c r s).xck = s.xck ∧ (answerRefused c r s).dmd = s.dmd ∧
    (answerRefused c r s).act = s.act ∧ (answerRefused c r s).cso = s.cso ∧
    (answerRefused c r s).svc.startState = s.svc.startState ∧ (answerRefused c r s).svc.loadTime = s.svc.loadTime ∧
    (answerRefused c r s).svc.tryTime = s.svc.tryTime ∧ (answerRefused c r s).svc.config = s.svc.config ∧
    (answerRefused c r s).svc.unconfigured = s.svc.unconfigured ∧
    (answerRefused c r s).svc.clamped = s.svc.clamped ∧ (answerRefused c r s).svc.loadFault = s.svc.loadFault ∧
    (answerRefused c r s).svc.factorySerial = s.svc.factorySerial ∧
    (answerRefused c r s).svc.events = s.svc.events ∧ (answerRefused c r s).svc.inhibitLatch = s.svc.inhibitLatch ∧
    (answerRefused c r s).svc.supplyLatch = s.svc.supplyLatch ∧
    (answerRefused c r s).svc.malformed = s.svc.malformed ∧ (answerRefused c r s).pending = s.pending := by
  simp [answerRefused, answer]

@[simp] theorem answerMalformed_frame (c : Byte) (s : State) :
    (answerMalformed c s).now = s.now ∧ (answerMalformed c s).odo = s.odo ∧ (answerMalformed c s).sns = s.sns ∧
    (answerMalformed c s).tsu = s.tsu ∧ (answerMalformed c s).portA = s.portA ∧
    (answerMalformed c s).portB = s.portB ∧ (answerMalformed c s).rcl = s.rcl ∧ (answerMalformed c s).src = s.src ∧
    (answerMalformed c s).pvq = s.pvq ∧ (answerMalformed c s).xck = s.xck ∧ (answerMalformed c s).dmd = s.dmd ∧
    (answerMalformed c s).act = s.act ∧ (answerMalformed c s).cso = s.cso ∧
    (answerMalformed c s).svc.startState = s.svc.startState ∧ (answerMalformed c s).svc.loadTime = s.svc.loadTime ∧
    (answerMalformed c s).svc.tryTime = s.svc.tryTime ∧ (answerMalformed c s).svc.config = s.svc.config ∧
    (answerMalformed c s).svc.unconfigured = s.svc.unconfigured ∧
    (answerMalformed c s).svc.clamped = s.svc.clamped ∧ (answerMalformed c s).svc.loadFault = s.svc.loadFault ∧
    (answerMalformed c s).svc.factorySerial = s.svc.factorySerial ∧
    (answerMalformed c s).svc.events = s.svc.events ∧ (answerMalformed c s).svc.inhibitLatch = s.svc.inhibitLatch ∧
    (answerMalformed c s).svc.supplyLatch = s.svc.supplyLatch ∧ (answerMalformed c s).pending = s.pending := by
  simp [answerMalformed, answer]

@[simp] theorem reportChange_frame (e : End) (u : Bool) (c : PortCause) (s : State) :
    (reportChange e u c s).now = s.now ∧ (reportChange e u c s).odo = s.odo ∧ (reportChange e u c s).sns = s.sns ∧
    (reportChange e u c s).tsu = s.tsu ∧ (reportChange e u c s).src = s.src ∧ (reportChange e u c s).pvq = s.pvq ∧
    (reportChange e u c s).xck = s.xck ∧ (reportChange e u c s).dmd = s.dmd ∧ (reportChange e u c s).act = s.act ∧
    (reportChange e u c s).cso = s.cso ∧ (reportChange e u c s).svc.startState = s.svc.startState ∧
    (reportChange e u c s).svc.loadTime = s.svc.loadTime ∧ (reportChange e u c s).svc.tryTime = s.svc.tryTime ∧
    (reportChange e u c s).svc.config = s.svc.config ∧
    (reportChange e u c s).svc.unconfigured = s.svc.unconfigured ∧
    (reportChange e u c s).svc.clamped = s.svc.clamped ∧ (reportChange e u c s).svc.loadFault = s.svc.loadFault ∧
    (reportChange e u c s).svc.factorySerial = s.svc.factorySerial ∧
    (reportChange e u c s).svc.inhibitLatch = s.svc.inhibitLatch ∧
    (reportChange e u c s).svc.supplyLatch = s.svc.supplyLatch ∧
    (reportChange e u c s).svc.malformed = s.svc.malformed ∧ (reportChange e u c s).svc.answer = s.svc.answer ∧
    (reportChange e u c s).pending = s.pending := by
  simp [reportChange]

@[simp] theorem goUp_frame (e : End) (c : PortCause) (s : State) :
    (goUp e c s).now = s.now ∧ (goUp e c s).odo = s.odo ∧ (goUp e c s).sns = s.sns ∧ (goUp e c s).tsu = s.tsu ∧
    (goUp e c s).src = s.src ∧ (goUp e c s).pvq = s.pvq ∧ (goUp e c s).xck = s.xck ∧ (goUp e c s).dmd = s.dmd ∧
    (goUp e c s).act = s.act ∧ (goUp e c s).cso = s.cso ∧ (goUp e c s).svc.startState = s.svc.startState ∧
    (goUp e c s).svc.loadTime = s.svc.loadTime ∧ (goUp e c s).svc.tryTime = s.svc.tryTime ∧
    (goUp e c s).svc.config = s.svc.config ∧ (goUp e c s).svc.unconfigured = s.svc.unconfigured ∧
    (goUp e c s).svc.clamped = s.svc.clamped ∧ (goUp e c s).svc.loadFault = s.svc.loadFault ∧
    (goUp e c s).svc.factorySerial = s.svc.factorySerial ∧ (goUp e c s).svc.inhibitLatch = s.svc.inhibitLatch ∧
    (goUp e c s).svc.supplyLatch = s.svc.supplyLatch ∧ (goUp e c s).svc.malformed = s.svc.malformed ∧
    (goUp e c s).svc.answer = s.svc.answer ∧ (goUp e c s).pending = s.pending := by
  simp [goUp]

end Sys2Proof.Machine
end

