-- ==== Sys2Proof/Laws/Cases.lean ====
section
/-! SUPPORT. What a shared operation can do, said once: for each, its cases with the guard of every case. -/

namespace Sys2Proof.Machine

/-- An offered frame is ignored, dropped or joined (R41 to R43). -/
theorem offerTo_cases (e : End) (f : LinkFrame) (s : State) :
    ((s.port e).line ≠ .up ∧ offerTo e f s = s) ∨
    ((s.port e).line = .up ∧ queueFull f.body (s.port e) = true ∧
      offerTo e f s = (s.setPort e (countDrop f.body (s.port e))).raise (.queueLoss (lossPlace f.body e))) ∨
    ((s.port e).line = .up ∧ queueFull f.body (s.port e) = false ∧
      offerTo e f s = s.setPort e (chooseIfIdle s.now (joinTail s.now f (s.port e)))) := by
  unfold offerTo
  split
  · exact .inl ⟨‹_›, rfl⟩
  · split
    · exact .inr (.inl ⟨by simp_all, ‹_›, rfl⟩)
    · exact .inr (.inr ⟨by simp_all, by simp_all, rfl⟩)

/-- The port to which a frame is offered comes out by that port, the frame and the clock alone. -/
theorem offerTo_port_congr (e : End) (f : LinkFrame) {s v : State} (port : v.port e = s.port e) (now : v.now = s.now) :
    (offerTo e f v).port e = (offerTo e f s).port e := by
  unfold offerTo
  rw [port, now]
  split
  · exact port
  · split <;> simp

/-- A frame offered at one end leaves the port of the other. -/
@[simp] theorem offerTo_port_other (e : End) (f : LinkFrame) (s : State) :
    (offerTo e f s).port (otherEnd e) = s.port (otherEnd e) := by
  obtain ⟨-, h⟩ | ⟨-, -, h⟩ | ⟨-, -, h⟩ := offerTo_cases e f s <;> simp [h]

/-- A trigger is dropped, kept, or starts a roll call (R52, R53). -/
theorem takeTrigger_cases (s : State) :
    (s.svc.startState = .loading ∧ takeTrigger s = s) ∨
    (s.svc.startState = .done ∧ s.rcl.triggerHold.isSome = true ∧ takeTrigger s = { s with rcl.pendingTrigger := true }) ∨
    (s.svc.startState = .done ∧ s.rcl.triggerHold = none ∧
      takeTrigger s = startRollCall { s with rcl.triggerHold := some 0 }) := by
  unfold takeTrigger
  cases hs : s.svc.startState <;> cases hh : s.rcl.triggerHold <;> simp

/-- A judgement of the latch sets it, with HOLD at once in PREVIEW, clears it, or leaves all as it stands (R115, R134). -/
theorem judgeSplit_cases (s : State) :
    (s.xck.splitLatch = false ∧ 24 ≤ s.xck.splitCounter ∧ judgeSplit s = splitHold (raiseSplit .set .count
      { s with xck.splitLatch := true, xck.latchSettings := addSat16 s.xck.latchSettings 1 })) ∨
    (s.xck.splitLatch = true ∧ s.xck.splitCounter = 0 ∧
      judgeSplit s = raiseSplit .clear .count { s with xck.splitLatch := false }) ∨
    (¬(s.xck.splitLatch = false ∧ 24 ≤ s.xck.splitCounter) ∧ ¬(s.xck.splitLatch = true ∧ s.xck.splitCounter = 0) ∧
      judgeSplit s = s) := by
  unfold judgeSplit
  cases hl : s.xck.splitLatch
  · by_cases hc : 24 ≤ s.xck.splitCounter <;> simp [hc]
  · by_cases hc : s.xck.splitCounter = 0 <;> simp [hc]

/-- A step that changed a binding is handed on and reported; one that did not writes the slots back (R86). -/
theorem endStep_cases (cause : SourceCause) (pBefore : Identity) (x : Slots) (s : State) :
    (x.changed = true ∧
      endStep cause pBefore x s = raiseSourceChange cause pBefore (resetSplit .binding (putSlots x s))) ∨
    (x.changed = false ∧ endStep cause pBefore x s = putSlots x s) := by
  unfold endStep
  cases x.changed <;> simp

/-- A judgement at a frame ends in a full evaluation, or in the judgement alone (R76). -/
theorem judgeAtFrame_cases (s : State) : let v := judgeSources s
    (rulesApply s.rcl = true ∧ callsFull s.src v.src.eligible = true ∧ judgeAtFrame s =
      endStep .eligibility (slotIdentity s.src.slotP) (fullEvaluation (groundsOf v) (slotsOf v)) v) ∨
    ((rulesApply s.rcl = false ∨ callsFull s.src v.src.eligible = false) ∧ judgeAtFrame s = v) := by
  intro v
  unfold judgeAtFrame
  cases hr : rulesApply s.rcl <;> cases hc : callsFull s.src v.src.eligible <;> simp_all [v]

/-- The judgement of an expiry ends in a full evaluation, in the promotion check, or in the judgement alone (R76, R80). -/
theorem judgeAtExpiry_cases (s : State) : let v := judgeSources s
    (rulesApply s.rcl = true ∧ callsFull s.src v.src.eligible = true ∧ judgeAtExpiry s =
      endStep .eligibility (slotIdentity s.src.slotP) (fullEvaluation (groundsOf v) (slotsOf v)) v) ∨
    (rulesApply s.rcl = true ∧ callsFull s.src v.src.eligible = false ∧ judgeAtExpiry s =
      endStep .promotion (slotIdentity s.src.slotP) (promotionCheck (groundsOf v) (slotsOf v)) v) ∨
    (rulesApply s.rcl = false ∧ judgeAtExpiry s = v) := by
  intro v
  unfold judgeAtExpiry
  cases hr : rulesApply s.rcl <;> cases hc : callsFull s.src v.src.eligible <;> simp_all [v]

/-- A CAR-STATE or TRACK-SAMPLE is applied and judged, or is a trigger in FORMED, or is without effect (R67, R68, R70). -/
theorem takeLiveness_cases (id : Identity) (arrived : End) (hop : Byte) (f : RosterEntry → RosterEntry) (s : State) :
    (isApplied id arrived hop s.rcl = true ∧
      takeLiveness id arrived hop f s = judgeAtFrame (applyToRosters id arrived hop f s)) ∨
    (isApplied id arrived hop s.rcl = false ∧ s.rcl.trainState = .formed ∧
      takeLiveness id arrived hop f s = takeTrigger s) ∨
    (isApplied id arrived hop s.rcl = false ∧ s.rcl.trainState ≠ .formed ∧ takeLiveness id arrived hop f s = s) := by
  unfold takeLiveness
  cases hi : isApplied id arrived hop s.rcl
  · by_cases hf : s.rcl.trainState = .formed <;> simp [hf]
  · simp

/-- A frame sets the fault, clears it, or leaves it (R20). -/
theorem healthAfter_cases (good : Bool) (h : SensorHealth) :
    (h.fault = false ∧ good = false ∧ 2 ≤ h.bad ∧ healthAfter good h = ⟨true, 0, 0⟩) ∨
    (h.fault = true ∧ good = true ∧ 19 ≤ h.good ∧ healthAfter good h = ⟨false, 0, 0⟩) ∨
    (healthAfter good h).fault = h.fault := by
  obtain ⟨fault, bad, goodCount⟩ := h
  cases fault <;> cases good <;> simp only [healthAfter] <;> (try split) <;> simp <;> omega

end Sys2Proof.Machine
end

