-- ==== Sys2Proof/Laws/Fields.lean ====
section
/-! SUPPORT. The byte encodings of the model are the fields of R178: low byte first, two's complement, a presence byte. -/

namespace Sys2Proof.Machine

@[simp] theorem field_length (width n : Nat) : (field width n).length = width := by simp [field]

@[simp] theorem signedField_length (width : Nat) (n : Int) : (signedField width n).length = width := by simp [signedField]

/-- A field of one byte. -/
theorem byteOf_field (n : Nat) : field 1 n = [byteOf n] := by simp [field, byteOf]

/-- A 16-bit field is the field of its number. -/
theorem bytes16_field (w : BitVec 16) : bytes16 w = field 2 w.toNat := by
  simp only [bytes16, field, List.range, List.range.loop, List.map_cons, List.map_nil, List.cons.injEq, and_true]
  constructor <;> apply BitVec.eq_of_toNat_eq <;> simp [Nat.shiftRight_eq_div_pow]

/-- A 32-bit field is the field of its number. -/
theorem bytes32_field (w : BitVec 32) : bytes32 w = field 4 w.toNat := by
  simp only [bytes32, field, List.range, List.range.loop, List.map_cons, List.map_nil, List.cons.injEq, and_true]
  refine ⟨?_, ?_, ?_, ?_⟩ <;> apply BitVec.eq_of_toNat_eq <;> simp [Nat.shiftRight_eq_div_pow]

/-- A 64-bit field is the field of its number. -/
theorem bytes64_field (w : BitVec 64) : bytes64 w = field 8 w.toNat := by
  simp only [bytes64, bytes32, field, List.range, List.range.loop, List.map_cons, List.map_nil, List.cons_append,
    List.nil_append, List.cons.injEq, and_true]
  refine ⟨?_, ?_, ?_, ?_, ?_, ?_, ?_, ?_⟩ <;> apply BitVec.eq_of_toNat_eq <;>
    simp [Nat.shiftRight_eq_div_pow] <;> omega

/-- A field takes the low bytes of its number. -/
theorem field_mod (width n : Nat) : field width (n % 256 ^ width) = field width n := by
  simp only [field, List.map_inj_left, List.mem_range]
  intro k hk
  apply BitVec.eq_of_toNat_eq
  have : 256 ^ width = 256 ^ k * (256 * 256 ^ (width - k - 1)) := by
    rw [← Nat.pow_succ', ← Nat.pow_add]; congr 1; omega
  simp only [BitVec.toNat_ofNat]
  rw [this, Nat.mod_mul_right_div_self]
  exact Nat.mod_mul_right_mod _ _ _

/-- A number as a 2-byte field. -/
theorem nat16_field (n : Nat) : nat16 n = field 2 n := by
  rw [nat16, bytes16_field, BitVec.toNat_ofNat]; exact field_mod 2 n

/-- A number as a 4-byte field. -/
theorem nat32_field (n : Nat) : nat32 n = field 4 n := by
  rw [nat32, bytes32_field, BitVec.toNat_ofNat]; exact field_mod 4 n

/-- A signed number as a 2-byte field. -/
theorem int16_field (n : Int) : int16 n = signedField 2 n := by
  rw [int16, bytes16_field, BitVec.toNat_ofInt]; rfl

/-- A signed number as a 4-byte field. -/
theorem int32_field (n : Int) : int32 n = signedField 4 n := by
  rw [int32, bytes32_field, BitVec.toNat_ofInt]; rfl

/-- A field that may be none. -/
theorem optional_presence (width : Nat) (o : Option (List Byte)) : optional width o = presence width o := by
  cases o <;> rfl

end Sys2Proof.Machine
end

