-- ==== Sys2Proof/Laws/Step.lean ====
section
/-! SUPPORT. What a lapse leaves as it was, and how a statement about every step follows from one about every command. -/

namespace Sys2Proof.Machine

@[simp] theorem completes_next (s : State) (holds : State → Prop) : completes (.next s) holds ↔ holds s :=
  ⟨fun ⟨_, h, hs⟩ => by cases h; exact hs, fun h => ⟨s, rfl, h⟩⟩

@[simp] theorem completes_fault (f : Fault) (holds : State → Prop) : ¬completes (.fault f) holds :=
  fun ⟨_, h, _⟩ => nomatch h

/-- A property that every command keeps, and that says nothing of the queue, is kept by every step. -/
theorem keptByStep_of_exec {sound : State → Prop} (queue : ∀ s q, sound s → sound { s with pending := q })
    (kept : ∀ i s s', sound s → exec i s = .next s' → sound s') : keptByStep sound := by
  intro s s' hs h
  unfold step at h
  split at h
  · cases h; exact hs
  · exact kept _ _ _ (queue _ _ hs) h

@[simp] theorem lapsePort_frame (us : Nat) (heard : Heard) (p : Port) :
    (lapsePort us heard p).line = p.line ∧ (lapsePort us heard p).farEnd = p.farEnd ∧
    (lapsePort us heard p).receiver = p.receiver ∧ (lapsePort us heard p).notices = p.notices ∧
    (lapsePort us heard p).streams = p.streams ∧ (lapsePort us heard p).sending = p.sending ∧
    (lapsePort us heard p).counters = p.counters := by
  unfold lapsePort; split <;> exact ⟨by simp_all, rfl, rfl, rfl, rfl, rfl, rfl⟩

@[simp] theorem lapseOdo_frame (us : Nat) (o : Odo) :
    (lapseOdo us o).pulseLength = o.pulseLength ∧ (lapseOdo us o).odometer = o.odometer ∧
    (lapseOdo us o).fraction = o.fraction ∧ (lapseOdo us o).direction = o.direction ∧
    (lapseOdo us o).measurement = o.measurement ∧ (lapseOdo us o).overflowCount = o.overflowCount ∧
    (lapseOdo us o).speed = o.speed := by
  unfold lapseOdo; split <;> exact ⟨rfl, rfl, rfl, rfl, rfl, rfl, rfl⟩

@[simp] theorem lapseSvc_frame (us : Nat) (v : Svc) :
    (lapseSvc us v).startState = v.startState ∧ (lapseSvc us v).config = v.config ∧
    (lapseSvc us v).unconfigured = v.unconfigured ∧ (lapseSvc us v).clamped = v.clamped ∧
    (lapseSvc us v).loadFault = v.loadFault ∧ (lapseSvc us v).factorySerial = v.factorySerial ∧
    (lapseSvc us v).events = v.events ∧ (lapseSvc us v).inhibitLatch = v.inhibitLatch ∧
    (lapseSvc us v).supplyLatch = v.supplyLatch ∧ (lapseSvc us v).malformed = v.malformed ∧
    (lapseSvc us v).answer = v.answer := by
  unfold lapseSvc; split <;> exact ⟨by simp_all, rfl, rfl, rfl, rfl, rfl, rfl, rfl, rfl, rfl, rfl⟩

@[simp] theorem lapse_frame (t : Lapse) (s : State) :
    (s.lapse t).odo.speed = s.odo.speed ∧ (s.lapse t).odo.odometer = s.odo.odometer ∧
    (s.lapse t).odo.direction = s.odo.direction ∧ (s.lapse t).odo.measurement = s.odo.measurement ∧
    (s.lapse t).sns.bogieHealth = s.sns.bogieHealth ∧ (s.lapse t).sns.bodyHealth = s.sns.bodyHealth ∧
    (s.lapse t).sns.window = s.sns.window ∧ (s.lapse t).sns.counters = s.sns.counters ∧ (s.lapse t).tsu = s.tsu ∧
    (s.lapse t).rcl.roster = s.rcl.roster ∧ (s.lapse t).rcl.previousRoster = s.rcl.previousRoster ∧
    (s.lapse t).rcl.trainState = s.rcl.trainState ∧ (s.lapse t).rcl.currentEpoch = s.rcl.currentEpoch ∧
    (s.lapse t).src = s.src ∧ (s.lapse t).pvq = s.pvq ∧ (s.lapse t).xck = s.xck ∧ (s.lapse t).dmd = s.dmd ∧
    (s.lapse t).act.enable = s.act.enable ∧ (s.lapse t).act.duty = s.act.duty ∧
    (s.lapse t).act.supplyOk = s.act.supplyOk ∧ (s.lapse t).act.failedLatch = s.act.failedLatch ∧
    (s.lapse t).act.failureCause = s.act.failureCause ∧ (s.lapse t).cso.inhibit = s.cso.inhibit ∧
    (s.lapse t).svc.startState = s.svc.startState ∧ (s.lapse t).svc.config = s.svc.config ∧
    (s.lapse t).svc.unconfigured = s.svc.unconfigured ∧ (s.lapse t).svc.loadFault = s.svc.loadFault ∧
    (s.lapse t).svc.factorySerial = s.svc.factorySerial ∧ (s.lapse t).svc.events = s.svc.events ∧
    (s.lapse t).pending = s.pending := by
  unfold State.lapse; split <;> simp

end Sys2Proof.Machine
end

