-- ==== Sys2Proof/Tests/Slice0.lean ====
section
/-! SUPPORT. Tests of the model on fixed values: a refused term for each check of `Instr.wf`, the worked cases of the
manual, and for each statement of Obligations.lean with hypotheses a state and operands that meet them. -/

namespace Sys2Proof.Tests

open Sys2Proof.Machine

-- One theorem after another: elaborated at once, their threads together pass the memory limit of the check.
set_option Elab.async false

/-! ## Helpers -/

/-- A lapse of some µs in which both ports hear frames. -/
def wait (us : Nat) : Lapse := ⟨us, .bytes, .bytes⟩

/-- The state after a command that answers a next state. -/
def after (i : Instr) (s : State) : State :=
  match exec i s with
  | .next s'    => s'
  | .fault _    => s
  | .refused _  => s

/-- A station of the coupling case (chapter 4), as its ROLL-ENTRY leaves it. -/
def station (identity : Identity) (side : Side) (hop : Option Nat) (sentFrom : Option End) (length ref : Nat) :
    RosterEntry :=
  { identity, side, hop, sentFrom, ordinal := none, aFacesEnd0 := none, carLength := length, sensorPos := 2500
    refPos := ref, unitNumber := 0, unconfigured := false, position := none, trainDistance := none
    lastCarState := some ⟨0, 3, 0, 0⟩, lastValid := some 0, invalidCount := 0 }

/-- Y's roster in the coupling case, in the order of arrival: self, Z, X and W. -/
def couplingRoster : List RosterEntry :=
  [station 5177 .self none none 26400 13200, station 3090 (.port .a) (some 0) (some .b) 27100 13550,
   station 4408 (.port .b) (some 0) (some .b) 26400 13200, station 4612 (.port .b) (some 1) (some .b) 27100 13550]

/-- Y, configured with the default record, its train FORMED, running toward W at 69,476 mm/s. -/
def running : State :=
  { State.reset with
    svc.startState := .done, svc.config.identity := 5177, svc.config.unitNumber := some 1
    rcl.trainState := .formed, rcl.roster := formedRoster 5177 couplingRoster, rcl.currentEpoch := 58
    rcl.highestEpoch := 58
    odo.odometer := 996684, odo.direction := .towardB, odo.measurement := .timed 416 69476, odo.speed := 69476
    dmd.mode := .localBogie, dmd.standing := .formed, dmd.lastOdometer := 995989
    act.supplyOk := true, act.rawSupply := true, act.enable := true
    svc.supplyLatch := ⟨true, false⟩, cso.carStateTimer := some 0, cso.unitInUse := some 1
    cso.neighbourA := ⟨some 3090, some ⟨0, 1200⟩⟩, cso.neighbourB := ⟨some 4408, some ⟨0, 2300⟩⟩ }

/-- The queue of the worked case "Three expiries" (chapter 6). -/
def threeExpiries : List PreviewEntry :=
  [⟨5001, 1020000, 400⟩, ⟨5002, 1022015, 520⟩, ⟨5003, 1024030, 610⟩, ⟨5007, 1032090, 640⟩, ⟨5008, 1034105, 655⟩]

/-- Y in PREVIEW with W in P and X in S. -/
def previewing : State :=
  { running with
    src.slotP := some ⟨4612, 64200⟩, src.slotS := some ⟨4408, 37100⟩, src.eligible := [4408, 4612]
    src.ranking := [⟨4612, 64200⟩, ⟨4408, 37100⟩], src.headFlag := false
    pvq.queueP := threeExpiries, dmd.mode := .preview, dmd.lookaheadPoint := some 1020305, dmd.command := 1850
    dmd.target := 1877, dmd.lastDemand := 1877 }

/-- A port that is UP with nothing to send. -/
def upPort : Port := { portPowerOn with line := .up, settleTime := 10000 }

/-- A TRACK-SAMPLE in a link frame, and a ROLL-START in one. -/
def streamFrame : LinkFrame := ⟨0, 21, .trackSample ⟨4612, 7, 442, true, 1014⟩⟩
def noticeFrame : LinkFrame := ⟨0, 0, .rollStart 59 4612⟩

/-- A reply of a sensor unit with a good check. -/
def reply (address status : Byte) (value : BitVec 16) : SensorReply :=
  ⟨address, status, value, checkOf ([address, status] ++ bytes16 value)⟩

/-- The record bytes with a good check. -/
def checked (r : RecordBytes) : RecordBytes := { r with check := checkOf (recordCovered r) }

/-- The bytes of a record without a fault, but for its check: the default fields for Y (R169). -/
def defaultBytes : RecordBytes :=
  { identity := 5177, wheelDiameter := 920, pulsesPerRev := 100, carLength := 26400, sensorPos := 2500, refPos := 13200
    unitNumber := 1, lookaheadTime := 350, reserved := 0, compensation := 70, localComp := 45, switchOff := 16700
    switchOn := 19500, angleLimit := 8000, gangwayLimit := 4000, tiltRate := 5000, loopGain := 400, thresholdTens := 40
    check := 0 }

def goodRecord : RecordBytes := checked defaultBytes

/-! ## WellFormed: an ill-formed term for each check -/

theorem test_wf_refuses_a_good_kind_byte : Instr.wf (.frameFormatError (wait 0) .a (.kind 3)) = false := by decide
theorem test_wf_refuses_a_good_hop_byte : Instr.wf (.frameFormatError (wait 0) .a (.hop 15)) = false := by decide
theorem test_wf_refuses_a_hop_above_15 :
    Instr.wf (.linkFrameReceived (wait 0) .a { streamFrame with hop := 16 } 0 false false) = false := by decide
theorem test_wf_refuses_a_known_request :
    Instr.wf (.unknownRequest (wait 0) 1 [] (checkOf (messageCovered 1 []))) = false := by decide +kernel
theorem test_wf_refuses_a_payload_of_256_bytes :
    Instr.wf (.readStatus (wait 0) (List.replicate 256 0)) = false := by decide +kernel
theorem test_ill_formed_is_a_fault :
    exec (.frameFormatError (wait 0) .a (.hop 15)) State.reset = .fault .illFormed := rfl

/-! ## Worked cases of the manual -/

/-- Chapter 1, "starting from a stand": pulse 1, then pulse 2 after 20,000 µs. -/
theorem test_pulse_starts_from_a_stand :
    let s := after (.tachometerPulse (wait 0) false false false)
      { State.reset with odo.direction := .towardB, odo.odometer := 1000000, odo.fraction := 512 }
    s.odo.odometer = 1000029 ∧ s.odo.fraction = 412 ∧ s.odo.measurement = .started ∧ s.odo.speed = 0 := by
  decide +kernel

theorem test_pulse_measures_the_period :
    let s := after (.tachometerPulse (wait 20000) false false false)
      { State.reset with odo.direction := .towardB, odo.odometer := 1000029, odo.fraction := 412, odo.measurement := .started }
    s.odo.odometer = 1000058 ∧ s.odo.fraction = 312 ∧ s.odo.measurement = .timed 20000 1445 ∧ s.odo.speed = 1445 := by
  decide +kernel

/-- The same case, the sensor poll 25,000 µs after pulse 3. -/
theorem test_poll_lowers_the_speed :
    (after (.pollExpiry (wait 25000))
      { State.reset with odo.measurement := .timed 18500 1562, odo.speed := 1562 }).odo.speed = 1156 := by decide +kernel

/-- Chapter 1, "coming to a stand": the eighth wrap. -/
theorem test_eighth_wrap_is_a_standstill :
    let s := after (.captureCounterWrap (wait 70000))
      { State.reset with odo.measurement := .timed 18500 1562, odo.speed := 72, odo.overflowCount := 7 }
    s.odo.measurement = .void ∧ s.odo.speed = 0 ∧ s.odo.overflowCount = 0 := by decide +kernel

/-- R3: the pulse length of the default wheel, and the least and the greatest. -/
theorem test_pulse_lengths :
    recordPulseLength (defaultRecord 1) = 29596 ∧
    recordPulseLength { defaultRecord 1 with wheelDiameter := 700, pulsesPerRev := 250 } = 9008 ∧
    recordPulseLength { defaultRecord 1 with wheelDiameter := 1000, pulsesPerRev := 50 } = 64340 := by decide +kernel

/-- Chapter 1, the comparison across the wrap. -/
theorem test_distances_across_the_wrap :
    distanceAdd 4294966000 24316 = 23020 ∧ isAfter 23020 4294966000 = true ∧ distanceDiff 4294967000 23020 = -23316 := by
  decide +kernel

/-- Chapter 2, "a bogie unit drops out": poll 3. -/
theorem test_third_bad_frame_sets_the_fault :
    let s := after (.bogieFrame (wait 100) { reply 1 0 412 with check := 0 })
      { State.reset with sns.bogieHealth := ⟨false, 2, 0⟩, sns.window := [412], sns.wait := .waiting .bogie 0 }
    s.sns.bogieHealth = ⟨true, 0, 0⟩ ∧ s.sns.window = [] ∧
    s.svc.events.sensorFault.detail = some (.sensorFault .bogie .set) := by decide +kernel

/-- Chapter 2, "one interval at speed": the publishing pulse. -/
theorem test_interval_is_published :
    let s := after (.tachometerPulse (wait 416) false false false)
      { running with
        odo.odometer := 1000899, odo.fraction := 500, tsu := ⟨.running, 998900, 2210, 5, 4117⟩
        portA := { upPort with sending := some noticeFrame } }
    s.tsu = ⟨.running, 1000928, 0, 0, 4118⟩ ∧
    s.portA.streams.map (fun q => q.frame.body) = [.trackSample ⟨5177, 4118, 442, true, 1014⟩] := by decide +kernel

/-- R25: the local values of the rule's own windows. -/
theorem test_local_values : localValue [410, 455, -20] = 281 ∧ localValue [-410, -455, 20] = -281 := by decide

theorem test_body_angle_out_of_range_is_bad :
    let s := after (.bodyAngleFrame (wait 100) (reply 2 0 15001)) { State.reset with sns.wait := .waiting .body 0 }
    s.sns.lastBody = 0 ∧ s.sns.counters.bodyOutOfRange = 1 ∧ s.sns.bodyHealth.bad = 1 := by decide +kernel

theorem test_no_reply_moves_the_poll_on :
    let s := after (.sensorReplyTimeout (wait 500)) { State.reset with sns.wait := .waiting .bogie 0 }
    s.sns.counters.bogie.noReply = 1 ∧ s.sns.wait = .waiting .body 0 := by decide +kernel

/-- Chapter 3: a port settles and goes UP; a signal loss takes it down again. -/
theorem test_port_settles :
    (after (.lineSignalDetected (wait 1) .a) State.reset).portA.line = .settling ∧
    (after (.settleTimeExpiry (wait 1) .a) { State.reset with portA.line := .settling }).portA.line = .up ∧
    (after (.signalLoss (wait 1) .a) { State.reset with portA := upPort }).portA.line = .down := by decide +kernel

theorem test_far_end_failure_and_return :
    (after (.markerTimeExpiry (wait 1) .b) { State.reset with portB := upPort }).portB.farEnd = true ∧
    (after (.farEndUp (wait 1) .b) { State.reset with portB.line := .settling, portB.farEnd := true }).portB.line = .up ∧
    (after (.flagTimeExpiry (wait 1) .b)
      { State.reset with portB.line := .settling, portB.farEnd := true, portB.settleTime := 5 }).portB.farEnd = false := by
  decide +kernel

theorem test_spoiled_frames_are_counted :
    let s := { State.reset with portA := { upPort with receiver := .inFrame .up } }
    (after (.frameTruncated (wait 0) .a .plain) s).portA.counters.truncated = 1 ∧
    (after (.frameFormatError (wait 0) .a (.kind 6)) s).portA.counters.formatErrors = 1 ∧
    (after (.startPatternFound (wait 0) .a) { s with portA.receiver := .hunting }).portA.receiver = .inFrame .up := by
  decide +kernel

/-- R45, R46: a stream frame 10 µs too old is dropped, a notice is not. -/
theorem test_stale_frame_is_dropped :
    let s := { State.reset with
      now := 5000, portA := { upPort with sending := some noticeFrame, streams := [⟨{ streamFrame with age := 1 }, 0⟩] } }
    (after (.transmitComplete (wait 0) .a) s).portA.counters.staleDrops = 1 ∧
    (after (.transmitComplete (wait 0) .a)
      { s with portA.notices := [⟨{ noticeFrame with age := 1 }, 0⟩] }).portA.sending = some { noticeFrame with age := 501 } := by
  decide +kernel

/-- An accepted frame gains 10 units of age and a hop on its way out of the other port. -/
theorem test_frame_is_forwarded :
    let s := after (.linkFrameReceived (wait 0) .a streamFrame (checkOf (frameCovered streamFrame)) false false)
      { State.reset with portA := { upPort with receiver := .inFrame .up }, portB := upPort }
    s.portA.counters.accepted = 1 ∧ s.portB.sending = some { streamFrame with hop := 1, age := 31 } := by decide +kernel

/-- Chapter 4, the coupling case seen from Y: ordinals, positions, and the train distances of W and X. -/
theorem test_four_car_geometry :
    (formedRoster 5177 couplingRoster).map (fun x => (x.identity, x.ordinal, x.position, x.trainDistance)) =
      [(3090, some 0, some 2500, some (-37800)), (5177, some 1, some 40300, none),
       (4408, some 2, some 77400, some 37100), (4612, some 3, some 104500, some 64200)] := by decide +kernel

/-- The quiet timer forms the train of the coupling case. -/
theorem test_quiet_timer_forms :
    let s := after (.quietTimerExpiry (wait 0))
      { running with rcl.trainState := .forming, rcl.roster := couplingRoster, rcl.quietTimer := some 30000 }
    s.rcl.trainState = .formed ∧ s.src.ranking = [⟨4612, 64200⟩, ⟨4408, 37100⟩] ∧ s.src.slotS = some ⟨4612, 64200⟩ := by
  decide +kernel

theorem test_trigger_hold_stops :
    (after (.triggerHoldExpiry (wait 0)) { running with rcl.triggerHold := some 100000 }).rcl.triggerHold = none ∧
    (after (.triggerHoldExpiry (wait 0))
      { running with rcl.triggerHold := some 100000, rcl.pendingTrigger := true }).rcl.currentEpoch = 59 := by decide +kernel

/-- Chapter 6, "the lookup across one queue". -/
theorem test_lookup_across_one_queue :
    [1014500, 1017000, 1021000, 1023500, 1024030, 1028000, 1033000, 1036000, 1039000].map (fun lp => lookup lp threeExpiries) =
      [.before, .covered 400, .covered 459, .covered 586, .hole, .hole, .covered 646, .covered 655, .beyond] := by
  decide +kernel

/-- Chapter 6, "three expiries": the third consumes one entry. -/
theorem test_consumption : consume 1021695 threeExpiries = threeExpiries ∧ consume 1022390 threeExpiries = threeExpiries.tail := by
  decide +kernel

/-- Chapter 6, "a run of samples at the tail": arrivals 3 and 5. -/
theorem test_join_rules :
    mayJoin ⟨65534, 7102010, 0⟩ ⟨0, 7106040, 0⟩ = true ∧ missingBetween 0 65534 = 1 ∧
    mayJoin ⟨2, 7110070, 0⟩ ⟨3, 7110070, 0⟩ = false := by decide +kernel

/-- Chapter 7, "a drifting bogie unit": the entry that sets the latch. -/
theorem test_split_latch_sets_at_26 :
    let s := judgePair ⟨7221, 6122345, 1400⟩ ⟨0, 6122165, 760⟩ { previewing with xck.splitCounter := 23 }
    s.xck.splitCounter = 26 ∧ s.xck.splitLatch = true ∧ s.dmd.mode = .hold ∧ s.dmd.heldDemand = 1877 := by decide +kernel

/-- R138: the demands of the rule, and the greatest. -/
theorem test_demands :
    compensationDemand 70 459 = 1877 ∧ compensationDemand 45 442 = 1162 ∧ compensationDemand 70 598 = 2445 ∧
    compensationDemand 90 2000 = 10516 ∧ compensationDemand 70 (-459) = -1877 := by decide +kernel

/-- Chapter 8, "the gangway clamp": rows two to four. -/
theorem test_gangway_clamp :
    gangwayClamp 4000 (some 1200) (some 2300) 6500 = 5200 ∧ gangwayClamp 4000 (some 0) (some 5900) 6500 = 4000 ∧
    gangwayClamp 4000 (some (-5300)) (some 3101) (-2400) = -1099 := by decide +kernel

/-- Chapter 8, "one control tick", and its command with 1,700 mdeg before. -/
theorem test_one_control_tick :
    let s := after (.controlExpiry (wait 0)) previewing
    s.dmd.lookahead = 24316 ∧ s.dmd.lookaheadPoint = some 1021000 ∧ s.pvq.lastLookup = some (.covered 459) ∧
    s.dmd.mode = .preview ∧ s.dmd.target = 1877 ∧ s.dmd.command = 1877 := by decide +kernel

theorem test_rate_step_bounds_the_tick :
    (after (.controlExpiry (wait 0)) { previewing with dmd.command := 1700 }).dmd.command = 1750 := by decide +kernel

/-- R147: the duties of the rule. -/
theorem test_duties : driveDuty 400 177 = 70 ∧ driveDuty 400 (-3000) = -1000 := by decide +kernel

theorem test_supply_fall_fails_a_tilting_car :
    let s := after (.supplyOkDebounceExpiry (wait 0)) { previewing with act.rawSupply := false, act.debounceTime := 50000 }
    s.act.failureCause = some .supply ∧ s.act.enable = false ∧
    (after (.supplyOkLineChange (wait 0) false) previewing).act.rawSupply = false := by decide +kernel

theorem test_inhibit_is_debounced :
    (after (.inhibitLineChange (wait 5) true) previewing).cso.rawInhibit = true ∧
    (after (.inhibitDebounceExpiry (wait 5)) { previewing with cso.rawInhibit := true }).cso.inhibit = true := by
  decide +kernel

theorem test_car_state_is_sent :
    (after (.carStateTimerExpiry (wait 0)) { previewing with portA := upPort, act.failedLatch := true }).portA.sending =
      some ⟨0, 0, .carState ⟨5177, 3, 2, 4, 0, 1850, 69476, 4612⟩⟩ := by decide +kernel

/-! ## Start and the service line -/

theorem test_load_ends_start :
    let s := after (.configReadComplete (wait 0) goodRecord false) State.reset
    s.svc.startState = .done ∧ s.svc.config.identity = 5177 ∧ s.rcl.trainState = .forming ∧ s.cso.unitInUse = some 1 := by
  decide +kernel

theorem test_load_timeout_leaves_it_unconfigured :
    let s := after (.configLoadTimeout (wait 0) true) State.reset
    s.svc.unconfigured = true ∧ s.svc.loadFault = some .noAnswer ∧ s.act.failureCause = some .config ∧
    (after (.configLoadRetry (wait 0)) State.reset).svc.tryTime = 0 := by decide +kernel

theorem test_gap_and_unknown_request :
    (after (.requestGapTimeout (wait 7)) State.reset).now = 7 ∧
    (after (.unknownRequest (wait 0) 10 [] 0) State.reset).svc.malformed = 1 := by decide +kernel

theorem test_readings_are_answered :
    (after (.readStatus (wait 0) []) previewing).svc.answer.length = 63 ∧
    (after (.readRoster (wait 0) [16]) previewing).svc.malformed = 1 ∧
    (after (.readSlots (wait 0) []) previewing).svc.answer.length = 61 ∧
    (after (.readCounters (wait 0) []) previewing).svc.answer.length = 76 := by decide +kernel

theorem test_event_is_fetched :
    let s := after (.fetchEvent (wait 0) []) (previewing.raise (.portChange .a true .settled))
    s.svc.events.portChange.pending = false ∧ (s.svc.answer.drop 4).take 5 = [8, 1, 1, 2, 1] := by decide +kernel

theorem test_requests_act :
    (after (.setLocalInhibit (wait 0) [1]) previewing).dmd.localInhibit = true ∧
    (after (.sendOrder (wait 0) [0, 1]) previewing).cso.orderInhibit = true ∧
    (after (.resetFailed (wait 0) [])
      { running with act.failedLatch := true, act.failureCause := some .supply, odo.speed := 0 }).act.failedLatch = false ∧
    (after (.restart (wait 0) []) { running with odo.speed := 0 }).svc.startState = .loading := by decide +kernel

theorem test_power_on_keeps_the_serial :
    (after (.powerOn true true) { previewing with svc.factorySerial := 9 }).svc.factorySerial = 9 := by decide +kernel

/-- R177: the check of the characters 1 to 9. -/
theorem test_check_of_nine_characters :
    checkOf [0x31, 0x32, 0x33, 0x34, 0x35, 0x36, 0x37, 0x38, 0x39] = 0x906E := by decide +kernel

/-! ## Witnesses: for each statement with hypotheses, a state and operands that meet them -/

/-- Y in PREVIEW with a CONTROL_EXPIRY at the front of its queue. -/
def previewTick : State := { previewing with pending := [.controlExpiry (wait 0)] }

theorem witness_StepRunsTheFrontCommand :
    previewTick.pending = .controlExpiry (wait 0) :: [] ∧ State.reset.pending = [] := ⟨rfl, rfl⟩

theorem witness_WellFormedCommandsComplete :
    Instr.wf (.controlExpiry (wait 0)) = true ∧ Instr.wf (.frameFormatError (wait 0) .a (.hop 15)) = false := by decide

/-- The step of every StepKeeps statement answers a next state here. -/
theorem witness_step_answers : step previewTick = .next (after (.controlExpiry (wait 0)) previewing) := rfl

theorem witness_StepKeepsMeasurementsSound : odometrySound previewTick ∧ sensingSound previewTick :=
  ⟨⟨by decide, by decide, by decide, by decide, show 1 ≤ 416 ∧ 69476 ≤ 120000 ∧ 69476 ≤ 69476 by decide⟩, by decide⟩

theorem witness_StepKeepsLinkSound : linkSound previewTick := by decide
theorem witness_StepKeepsRosterSound : rosterSound previewTick := by decide +kernel
theorem witness_StepKeepsPreviewSound : previewSound previewTick := by decide +kernel
theorem witness_StepKeepsStartAndBindingSound : startSound previewTick ∧ bindingSound previewTick := by decide
theorem witness_StepKeepsSplitSound : splitSound previewTick := by decide

theorem witness_StepKeepsConfigAndCommandSound : configSound previewTick ∧ commandSound previewTick :=
  ⟨⟨by decide, ⟨by decide, by decide, by decide, by decide, by decide, by decide,
    fun _ h => by cases h; decide, by decide⟩, rfl⟩, by decide⟩

theorem witness_StepKeepsActuatorSound : driveSound previewTick ∧ failureSound previewTick := by decide

theorem witness_StepKeepsReportsSound :
    eventsSound previewTick ∧ latchesSound previewTick ∧ countersSound previewTick := by decide +kernel

theorem witness_DistancesAndSequencesWrapAround :
    ((2147483648 : Distance) - 0).toNat = 2 ^ 31 ∧ follows 1000 0 = true ∧ follows 1001 0 = false := by decide

theorem witness_PulseSamplesTheTrack :
    State.reset.odo.direction = .unknown ∧ previewing.odo.direction = .towardB := by decide

theorem witness_ReversalEndsPreview :
    (previewing.lapse (wait 416)).odo.direction ≠ .unknown ∧
    (previewing.lapse (wait 416)).odo.direction ≠ .towardA := by decide +kernel

/-- R118: of a set latch one SPLIT is raised in either order, with the cause of the first that XCK takes; the last samples
are older than 250 ms, so that S stays empty (R87). -/
theorem test_reversal_raises_one_split :
    let split (crossCheckFirst : Bool) := (after (.tachometerPulse (wait 416) true true crossCheckFirst)
      { previewing with now := 250000, dmd.mode := .hold, xck.splitCounter := 30, xck.splitLatch := true }).svc.events.split
    split true = ⟨true, 1, some (.split .clear .reversal 0 4612 4408)⟩ ∧
    split false = ⟨true, 1, some (.split .clear .binding 0 0 0)⟩ := by decide +kernel

theorem witness_SpeedFallsWithoutPulses :
    (previewing.lapse (wait 416)).odo.measurement = .timed 416 69476 ∧
    ∀ period v, State.reset.odo.measurement ≠ .timed period v := ⟨rfl, fun _ _ h => nomatch h⟩

theorem witness_BogieReplyIsJudgedAndUsed :
    ({ running with sns.wait := .waiting .bogie 100 }.lapse (wait 400)).sns.wait = .waiting .bogie 500 := by decide +kernel

theorem witness_BodyReplyIsJudgedAndFailsTheCar :
    ({ running with sns.wait := .waiting .body 0 }.lapse (wait 0)).sns.wait = .waiting .body 0 := by decide +kernel

theorem witness_SilenceCountsTowardTheFault :
    (running.lapse (wait 500)).sns.wait = .idle ∧
    ({ running with sns.wait := .waiting .bogie 0 }.lapse (wait 500)).sns.wait = .waiting .bogie 500 ∧
    ({ running with sns.wait := .waiting .body 0 }.lapse (wait 500)).sns.wait = .waiting .body 500 := by decide +kernel

theorem witness_LocalValueIsTheTruncatedMean :
    List.replicate 20 (-6000 : Int) ≠ [] ∧ (List.replicate 20 (-6000 : Int)).length ≤ 20 ∧
    (∀ v ∈ List.replicate 20 (-6000 : Int), within 6000 v) ∧ running.dmd.mode = .localBogie := by decide

theorem witness_SpoiledFramesAreCountedAndDropped :
    (FormatError.kind 0).wf = true ∧ (FormatError.kind 6).wf = true ∧ (FormatError.hop 16).wf = true := by decide

theorem witness_ReceivedFrameIsJudged :
    ({ streamFrame with hop := 15 } : LinkFrame).hop.toNat ≤ 15 ∧ portPowerOn.receiver = .hunting ∧
    ({ upPort with receiver := .inFrame .up } : Port).receiver = .inFrame .up := by decide

/-- A port whose two queues hold eight frames each while a frame is sent. -/
def fullPort : Port :=
  { upPort with
    sending := some noticeFrame, notices := List.replicate 8 ⟨noticeFrame, 0⟩, streams := List.replicate 8 ⟨streamFrame, 0⟩ }

theorem witness_OfferedFrameJoinsOrDrops :
    portPowerOn.line ≠ .up ∧
    (fullPort.line = .up ∧ 8 ≤ fullPort.notices.length ∧ 8 ≤ fullPort.streams.length) ∧
    ({ upPort with sending := some noticeFrame }.line = .up ∧
      ¬ 8 ≤ ({ upPort with sending := some noticeFrame } : Port).streams.length) ∧
    (upPort.line = .up ∧ upPort.sending = none ∧ upPort.notices = [] ∧ upPort.streams = [] ∧
      upPort.counters.staleDrops ≤ 65535 ∧ isNotice noticeFrame.body = true ∧
      ({ streamFrame with age := 500 } : LinkFrame).age.toNat ≤ 500) ∧
    (isNotice streamFrame.body = false ∧ 500 < ({ streamFrame with age := 501 } : LinkFrame).age.toNat) := by decide

theorem witness_TransmitterPrefersNoticesAndDropsStale :
    upPort.sending = none ∧ (fullPort.sending = some noticeFrame ∧ fullPort.notices = ⟨noticeFrame, 0⟩ :: fullPort.notices.tail) ∧
    ({ fullPort with notices := [] } : Port).sending = some noticeFrame := by decide

theorem witness_OwnRollCallEntersTheEpoch :
    isNewer 127 0 = true ∧ (128 : Epoch) = 0 + 128 ∧
    isNewer (running.rcl.highestEpoch + 1) running.rcl.currentEpoch = true ∧
    isNewer (({ running.rcl with highestEpoch := 0 } : Rcl).highestEpoch + 1) running.rcl.currentEpoch = false ∧
    running.portA.line ≠ .up ∧
    (upPort.line = .up ∧ ({ upPort with sending := some noticeFrame } : Port).sending.isSome = true ∧
      (List.replicate 6 (⟨noticeFrame, 0⟩ : Queued)).length ≤ 6) := by decide

/-- A ROLL-ENTRY of a station that Y's train does not hold. -/
def newEntry (epoch : Epoch) : RollEntry := ⟨epoch, 7000, 0, 26400, 2500, 13200, 2⟩

theorem witness_RollCallFramesAreTakenByEpoch :
    running.svc.startState = .done ∧ isNewer 59 running.rcl.currentEpoch = true ∧
    State.reset.svc.startState = .loading ∧ isNewer 58 running.rcl.currentEpoch = false ∧
    (newEntry 58).epoch = running.rcl.currentEpoch ∧ running.rcl.trainState = .formed ∧
    (isNewer 57 running.rcl.currentEpoch = false ∧ (newEntry 57).epoch ≠ running.rcl.currentEpoch) ∧
    (isNewer 186 running.rcl.currentEpoch = false ∧ (newEntry 186).epoch ≠ running.rcl.currentEpoch) ∧
    ({ running with rcl.trainState := .oversize } : State).rcl.trainState = .oversize ∧
    ({ running with rcl.trainState := .forming } : State).rcl.trainState = .forming := by decide +kernel

/-- Y FORMING with the entries of the coupling case. -/
def quietForming (roster : List RosterEntry) : State :=
  { running with rcl.trainState := .forming, rcl.roster := roster, rcl.quietTimer := some 30000 }

theorem witness_QuietTimerJudgesTheRoster :
    (running.lapse (wait 0)).rcl.quietTimer = none ∧
    (((quietForming couplingRoster).lapse (wait 0)).rcl.quietTimer.isSome = true ∧
      sideComplete couplingRoster .a = true ∧ sideComplete couplingRoster .b = true) ∧
    (((quietForming couplingRoster.dropLast.tail).lapse (wait 0)).rcl.quietTimer.isSome = true ∧
      sideComplete [station 4612 (.port .b) (some 1) (some .b) 27100 13550] .b = false) ∧
    ({ quietForming couplingRoster with rcl.duplicateFlag := true }.lapse (wait 0)).rcl.duplicateFlag = true := by
  decide +kernel

/-- R89, R117: a duplicate found while a slot is bound and the latch set, which takes Y out of FORMED with both to end. -/
theorem witness_QuietTimerJudgesTheRoster_conflict :
    let s : State := { quietForming couplingRoster with
      rcl.duplicateFlag := true, src := previewing.src, pvq := previewing.pvq, xck.splitLatch := true }
    let u := s.lapse (wait 0)
    u.rcl.quietTimer.isSome = true ∧ u.rcl.duplicateFlag = true ∧
    (u.src.slotP.isSome || u.src.slotS.isSome) = true ∧ u.xck.splitLatch = true := by decide +kernel

/-- R88: W is looked up at 64,200 mm: kept from an offset of 64,100, lost from one of 64,099, and left where it is missing. -/
theorem witness_QuietTimerJudgesTheRoster_offsets :
    let moved (id : Identity) := (previewing.rcl.roster.find? fun y => y.identity = id).bind (rosterOffset previewing)
    moved 4612 = some 64200 ∧ moved 7000 = none ∧ |(64200 : Int) - 64100| ≤ 100 ∧ ¬ |(64200 : Int) - 64099| ≤ 100 ∧
    (reoffsetP previewing { slotsOf previewing with p := some ⟨4612, 64100⟩ }).p = some ⟨4612, 64200⟩ ∧
    (reoffsetP previewing { slotsOf previewing with p := some ⟨4612, 64099⟩ }).queueP = [] := by decide +kernel

theorem witness_FormationOrdersTheTrain :
    (couplingRoster.filter fun x => x.side = .self).length = 1 ∧ sideComplete couplingRoster .a = true ∧
    sideComplete couplingRoster .b = true ∧ (∀ x ∈ couplingRoster, x.refPos ≤ x.carLength ∧ x.sensorPos ≤ x.carLength) ∧
    selfFacesEnd0 running.rcl = some true ∧
    (running.rcl.roster.map RosterEntry.trainDistance).getLast? = some (some 64200) := by decide +kernel

theorem witness_OnlyMatchingFramesUpdateLiveness :
    (running.rcl.roster.any fun x => decide (x.identity = 4612) && decide (x.side = .port .b) && x.hop == some 1) = true ∧
    (running.rcl.roster.any fun x => decide (x.identity = 4612) && decide (x.side = .port .a) && x.hop == some 1) = false ∧
    ({ station 4612 (.port .b) (some 1) none 27100 13550 with invalidCount := 3 } : RosterEntry).invalidCount ≤ 3 := by
  decide +kernel

/-- Y in PREVIEW as it enters another roll call: its roster set aside, and self alone entered. -/
def secondRollCall : State :=
  { previewing with
    rcl.trainState := .forming, rcl.previousRoster := running.rcl.roster.filter fun x => x.side ≠ .self
    rcl.roster := couplingRoster.take 1 }

theorem witness_EligibleMeansEveryCondition :
    running.rcl.trainState = .formed ∧ (eligibleEntries running).map RosterEntry.identity = [4408, 4612] ∧
    (secondRollCall.rcl.trainState = .forming ∧
      (eligibleEntries secondRollCall).map RosterEntry.identity = [4408, 4612]) ∧
    (eligibleEntries { secondRollCall with src.slotS := some ⟨4408, 29999⟩ }).map RosterEntry.identity = [4612] ∧
    ({ running with rcl.trainState := .conflict } : State).rcl.trainState ≠ .formed := by decide +kernel

theorem witness_RankingOrdersByOffset :
    running.rcl.trainState ≠ .forming ∧ (quietForming couplingRoster).rcl.trainState = .forming ∧
    (judgeSources running).src.ranking = [⟨4612, 64200⟩, ⟨4408, 37100⟩] := by decide +kernel

/-- The slots with W in P and X in S. -/
def slotsPS : Slots := ⟨some ⟨4612, 64200⟩, some ⟨4408, 37100⟩, threeExpiries, threeExpiries.tail, false⟩

theorem witness_CoveringMeansHeadNotAfterPoint :
    slotsPS.queueS = ⟨5002, 1022015, 520⟩ :: ⟨5003, 1024030, 610⟩ :: threeExpiries.tail.tail.tail ∧
    isAfter 1022015 1021000 = true ∧ isAfter 1024030 1021000 = true ∧
    covering (some 1022015) slotsPS = true ∧ covering (some 1022014) slotsPS = false := by decide +kernel

/-- Grounds in FORMED with a lookahead point: the eligible set and the ranking are given. -/
def groundsWith (eligible : List Identity) (ranking : List Source) : Grounds := ⟨false, eligible, ranking, some 1022015, false⟩

theorem witness_IneligibleSourcesLeaveTheSlots :
    slotsPS.p = some ⟨4612, 64200⟩ ∧ slotsPS.s = some ⟨4408, 37100⟩ ∧
    (4612 : Identity) ∈ (groundsWith [4612] []).eligible ∧
    ((4612 : Identity) ∉ (groundsWith [4408] []).eligible ∧ (4408 : Identity) ∈ (groundsWith [4408] []).eligible ∧
      covering (groundsWith [4408] []).lp slotsPS = true) ∧
    ((4612 : Identity) ∉ (groundsWith [] []).eligible ∧ (4408 : Identity) ∉ (groundsWith [] []).eligible) ∧
    ({ slotsPS with p := none } : Slots).p = none ∧ ({ slotsPS with s := none } : Slots).s = none := by decide +kernel

theorem witness_SourcesRiseThroughTheSecondSlot :
    (groundsWith [] [⟨4408, 37100⟩]).forming = false ∧ slotsPS.p = some ⟨4612, 64200⟩ ∧
    (groundsWith [] [⟨4408, 37100⟩]).ranking = ⟨4408, 37100⟩ :: [] ∧ (4612 : Identity) ≠ 4408 ∧
    slotsPS.s = some ⟨4408, 37100⟩ ∧
    ({ slotsPS with p := none } : Slots).p = none ∧ ({ slotsPS with s := none } : Slots).s = none ∧
    (groundsWith [] [⟨4612, 64200⟩, ⟨4408, 37100⟩]).ranking = [⟨4612, 64200⟩] ++ ⟨4408, 37100⟩ :: [] ∧
    (∀ b ∈ (groundsWith [] [⟨4612, 64200⟩]).ranking, ∃ p, slotsPS.p = some p ∧ p.identity = b.identity) := by decide

/-- Y calls for a full evaluation while X is eligible and unbound, and for none while both are bound. -/
theorem witness_BindingChangeIsHandedOnAndReported :
    (previewing.rcl.trainState = .formed ∧ State.reset.rcl.trainState = .none ∧
      callsFull previewing.src (judgeSources previewing).src.eligible = false ∧
      callsFull { previewing.src with slotS := none, eligible := [4612] }
        (judgeSources { previewing with src.slotS := none, src.eligible := [4612] }).src.eligible = true) ∧
    slotsPS.changed = false ∧ (emptyP slotsPS).changed = true ∧ previewing.xck.splitLatch = false ∧
    ({ previewing with xck.splitLatch := true } : State).xck.splitLatch = true := by decide

/-- A valid sample of W, and of X. -/
def sampleOf (source : Identity) (sequence : Sequence) : TrackSample := ⟨source, sequence, 442, true, 1014⟩

theorem witness_SampleJoinsItsSourcesQueue :
    (previewing.src.slotP == some ⟨4612, 64200⟩) = true ∧ (previewing.src.slotS == some ⟨4408, 37100⟩) = true ∧
    previewing.pvq.queueS = [] ∧ previewing.pvq.queueP.getLast? = some ⟨5008, 1034105, 655⟩ ∧
    (let entry := entryOf (sampleOf 4612 5009) 0 64200 previewing
    (follows entry.sequence 5008 && isAfter entry.due 1034105) = true) ∧
    (let entry := entryOf (sampleOf 4612 5008) 0 64200 previewing
    (follows entry.sequence 5008 && isAfter entry.due 1034105) = false) ∧
    previewing.pvq.queueP.length < 256 ∧ 256 ≤ (List.replicate 256 (⟨5008, 1034105, 655⟩ : PreviewEntry)).length := by
  decide +kernel

theorem witness_LookupTakesTheFirstCase :
    threeExpiries.head? = some ⟨5001, 1020000, 400⟩ ∧ threeExpiries.getLast? = some ⟨5008, 1034105, 655⟩ ∧
    isBefore 1016000 1020000 = true ∧
    (isBefore 1038105 1020000 = false ∧ isAtOrAfter 1038105 1034105 = true) ∧
    (isBefore 1024030 1020000 = false ∧ isAtOrAfter 1024030 1034105 = false) ∧
    threeExpiries = [⟨5001, 1020000, 400⟩, ⟨5002, 1022015, 520⟩] ++ ⟨5003, 1024030, 610⟩ :: ⟨5007, 1032090, 640⟩ ::
      [⟨5008, 1034105, 655⟩] ∧
    isAtOrAfter 1024030 1024030 = true ∧ isBefore 1024030 1032090 = true ∧
    (0 ≤ distanceDiff 1022014 1020000 ∧ distanceDiff 1022014 1020000 < distanceDiff 1022015 1020000 ∧
      distanceDiff 1022015 1020000 ≤ 8000) ∧
    8000 < distanceDiff 1032090 1024030 := by decide +kernel

theorem witness_JoinedEntriesAreCrossChecked :
    running.src.slotP = none ∧ (previewing.src.slotP.isSome = true ∧ previewing.src.slotS.isSome = true) ∧
    (∀ m ∈ previewing.pvq.queueS, 1000 < distanceApart m.due 1022015) ∧
    (∃ m ∈ threeExpiries, distanceApart m.due 1023015 ≤ 1000) := by decide +kernel

/-- A disagreement at a count of 21 sets the latch in PREVIEW; an agreement at 1 clears a set one. -/
theorem witness_JoinedEntriesAreCrossChecked_events :
    (judgePair ⟨5002, 1022015, 520⟩ ⟨5001, 1020000, -1500⟩ { previewing with xck.splitCounter := 21 }).svc.events.modeChange =
      ⟨true, 1, some (.modeChange .preview .hold .split)⟩ ∧
    (judgePair ⟨5002, 1022015, 520⟩ ⟨5001, 1020000, 520⟩
      { previewing with xck.splitCounter := 1, xck.splitLatch := true }).svc.events.split =
      ⟨true, 1, some (.split .clear .count 0 4612 4408)⟩ := by decide +kernel

theorem witness_ExpiryReadsAtTheLookaheadPoint :
    (State.reset.lapse (wait 0)).svc.startState = .loading ∧ (previewing.lapse (wait 0)).svc.startState = .done := by
  decide +kernel

/-- Expiries that change the mode, keep it, enter HOLD, stay in it and leave it. -/
theorem witness_ExpiryChoosesTheFirstJudgement :
    (previewing.lapse (wait 0)).svc.startState = .done ∧
    (after (.controlExpiry (wait 0)) { previewing with cso.inhibit := true }).dmd.mode = .upright ∧
    (after (.controlExpiry (wait 0)) previewing).dmd.mode = .preview ∧
    (after (.controlExpiry (wait 0)) { previewing with pvq.queueP := [] }).dmd.mode = .hold ∧
    (after (.controlExpiry (wait 0)) { previewing with
      pvq.queueP := [], dmd.mode := .hold, dmd.holdRemainder := 696 }).dmd.holdRemainder = 1 ∧
    (after (.controlExpiry (wait 0)) { previewing with
      pvq.queueP := [], dmd.mode := .hold, dmd.holdRemainder := 695 }).dmd.mode = .localBogie := by decide +kernel

theorem witness_ExpiryStepsCommandTowardTarget : (running.lapse (wait 10)).svc.startState = .done := by decide +kernel

/-- Expiries in PREVIEW and in LOCAL. -/
theorem witness_ExpiryStepsCommandTowardTarget_modes :
    (after (.controlExpiry (wait 0)) previewing).dmd.mode = .preview ∧
    (after (.controlExpiry (wait 0)) { previewing with
      pvq.queueP := [], dmd.mode := .hold, dmd.holdRemainder := 695 }).dmd.mode = .localBogie := by decide +kernel

theorem witness_OnlyExpiriesMoveTheCarBody :
    exec (.controlExpiry (wait 0)) { previewing with act.enable := false } =
      .next (after (.controlExpiry (wait 0)) { previewing with act.enable := false }) ∧
    (after (.controlExpiry (wait 0)) { previewing with act.enable := false }).act.enable = true ∧
    (after (.controlExpiry (wait 0)) previewing).dmd.command ≠ previewing.dmd.command := ⟨rfl, by decide +kernel⟩

theorem witness_GangwayClampHoldsNearNeighbours :
    (neighbour running .a).identity = some 3090 ∧ (neighbour running .b).identity ≠ some 3090 ∧
    (neighbour State.reset .a).identity = none ∧
    neighbour { running with cso.neighbourA := ⟨some 3090, none⟩ } .a = ⟨some 3090, none⟩ ∧
    |(1200 : Int) - 9200| ≤ 2 * (4000 : Nat) ∧ 2 * (4000 : Nat) < |(1200 : Int) - 9201| ∧ |(1200 : Int) - 5200| ≤ (4000 : Nat) := by
  decide +kernel

theorem witness_HandDrivesAndMonitors : (running.lapse (wait 10)).svc.startState = .done := by decide +kernel

/-- The hundredth expiry with a large error, and the ninety-ninth. -/
theorem witness_HandDrivesAndMonitors_tracking :
    (after (.controlExpiry (wait 0)) { previewing with
      sns.lastBody := -4000, act.trackingCount := 99 }).svc.events.actuatorFault =
      ⟨true, 1, some (.actuatorFault .tracking false)⟩ ∧
    (after (.controlExpiry (wait 0)) { previewing with
      sns.lastBody := -4000, act.trackingCount := 98 }).svc.events.actuatorFault = recordClear := by decide +kernel

theorem witness_LinesAreDebounced :
    running.act.rawSupply = running.act.supplyOk ∧ ({ running with act.rawSupply := false } : State).act.rawSupply ≠ running.act.supplyOk ∧
    running.cso.rawInhibit = running.cso.inhibit ∧ ({ running with cso.rawInhibit := true } : State).cso.rawInhibit ≠ running.cso.inhibit ∧
    running.svc.supplyLatch.pending = false ∧ running.svc.inhibitLatch.pending = false ∧
    ({ running with svc.supplyLatch.pending := true, svc.inhibitLatch.pending := true } : State).svc.supplyLatch.pending = true := by
  decide

/-- A fall of the supply in PREVIEW, with both the condition latch and the FAILED latch at rest, and with both set. -/
theorem witness_LinesAreDebounced_fall :
    (after (.supplyOkDebounceExpiry (wait 0)) { previewing with act.rawSupply := false }).svc.events.actuatorFault =
      ⟨true, 1, some (.actuatorFault .supply false)⟩ ∧
    (after (.supplyOkDebounceExpiry (wait 0)) { previewing with
      act.rawSupply := false, act.failedLatch := true, svc.supplyLatch.pending := true }).svc.events =
      { previewing.svc.events with actuatorFault := ⟨true, 1, some (.actuatorFault .supply true)⟩ } := by decide +kernel

theorem witness_OrderIsSentAndAppliedWhereAddressed :
    (⟨3090, 2, 1⟩ : TiltOrder).action = 1 ∧ (⟨3090, 0, 2⟩ : TiltOrder).action = 2 ∧ (⟨3090, 0, 3⟩ : TiltOrder).action ≠ 2 ∧
    (⟨3090, 0, 2⟩ : TiltOrder).target = 0 ∧ running.cso.unitInUse = some (⟨3090, 1, 1⟩ : TiltOrder).target.toNat ∧
    running.cso.unitInUse ≠ some (⟨3090, 2, 1⟩ : TiltOrder).target.toNat := by decide

theorem witness_GoodRecordEndsStart :
    running.svc.startState = .done ∧ State.reset.svc.startState = .loading ∧
    goodRecord.check = checkOf (recordCovered goodRecord) ∧ goodRecord.identity ≠ 0 ∧
    goodRecord.sensorPos.toNat ≤ max 10000 (min 40000 goodRecord.carLength.toNat) ∧
    goodRecord.refPos.toNat ≤ max 10000 (min 40000 goodRecord.carLength.toNat) ∧ State.reset.rcl.triggerHold = none := by
  decide +kernel

/-- A load whose pulse length is the one in use, and one whose is not. -/
theorem witness_GoodRecordEndsStart_pulse_length :
    recordPulseLength (clampRecord (recordAsRead goodRecord)) = State.reset.odo.pulseLength ∧
    recordPulseLength (clampRecord (recordAsRead goodRecord)) ≠ ({ State.reset with odo.pulseLength := 30000 } : State).odo.pulseLength := by
  decide +kernel

/-- A record of each fault. -/
theorem witness_FailedLoadLeavesTheStationUnconfigured :
    State.reset.svc.startState = .loading ∧
    judgeRecord { goodRecord with check := goodRecord.check + 1 } = some .badCheck ∧
    judgeRecord (checked { defaultBytes with identity := 0 }) = some .identityZero ∧
    judgeRecord (checked { defaultBytes with sensorPos := 26401 }) = some .position ∧
    judgeRecord (checked { defaultBytes with sensorPos := 26400 }) = none := by decide +kernel

theorem witness_RequestsAreAnswered :
    ([] : List Byte).length ≤ 255 ∧ 9 < (10 : Byte).toNat ∧ [(1 : Byte)] ≠ [] ∧
    (∀ b : Byte, b.toNat ≤ 15 → [(16 : Byte)] ≠ [b]) ∧ (∀ b : Byte, b.toNat ≤ 1 → [(2 : Byte)] ≠ [b]) ∧
    [(1 : Byte)].length ≠ 2 ∧ (15 : Byte).toNat ≤ 15 ∧ running.rcl.roster.length ≤ (4 : Byte).toNat ∧ (1 : Byte).toNat ≤ 1 := by
  decide +kernel

theorem witness_EventsAreRaisedAndFetched :
    notifyLine running = false ∧
    kindsByPriority = kindsByPriority.take 7 ++ .portChange :: kindsByPriority.drop 8 ∧
    ((running.raise (.portChange .a true .settled)).svc.events.record .portChange).pending = true ∧
    (∀ k ∈ kindsByPriority.take 7, ((running.raise (.portChange .a true .settled)).svc.events.record k).pending = false) := by
  decide +kernel

theorem witness_RestartKeepsWhatItsUnitsKeep :
    State.reset.svc.startState = .loading ∧ running.svc.startState = .done ∧ running.odo.speed ≠ 0 ∧
    ({ running with odo.speed := 0 } : State).odo.speed = 0 ∧ running.dmd.command = 0 ∧ previewing.dmd.command ≠ 0 := by
  decide

end Sys2Proof.Tests
end

section
/-! SUPPORT. The statements about ODO: numbers that wrap (R5, R93), and what a pulse does to the odometer and the measured
speed (R1, R4, R6 to R10). -/

namespace Sys2Proof.Machine

/-! ## Odometer readings (R5) -/

/-- The two differences of two words add up to a full turn, or are both 0. -/
theorem toNat_sub_swap {w : Nat} (x y : BitVec w) :
    (y - x).toNat = if (x - y).toNat = 0 then 0 else 2 ^ w - (x - y).toNat := by
  rw [← neg_sub x y, BitVec.toNat_neg]
  have inRange := (x - y).isLt
  split
  case isTrue zero => simp [zero]
  case isFalse nonzero => exact Nat.mod_eq_of_lt (by omega)

theorem toNat_sub_eq_zero_iff {w : Nat} (x y : BitVec w) : (x - y).toNat = 0 ↔ x = y := by
  change (x - y).toNat = (0 : BitVec w).toNat ↔ x = y
  rw [BitVec.toNat_inj, sub_eq_zero]

theorem isAfter_iff (x y : Distance) :
    isAfter x y = true ↔ 1 ≤ (x - y).toNat ∧ (x - y).toNat ≤ 2 ^ 31 - 1 := by
  simp only [isAfter, Bool.and_eq_true, decide_eq_true_eq]
  omega

/-- Being before is lying in the upper half turn: the half turn itself is neither (R5). -/
theorem isBefore_iff (x y : Distance) :
    isBefore x y = true ↔ 2 ^ 31 + 1 ≤ (x - y).toNat ∧ (x - y).toNat ≤ 2 ^ 32 - 1 := by
  have inRange := (x - y).isLt
  rw [isBefore, isAfter_iff, toNat_sub_swap x y]
  split <;> omega

theorem isAfter_isBefore_of_half_turn {x y : Distance} (half : (x - y).toNat = 2 ^ 31) :
    isAfter x y = false ∧ isBefore x y = false := by
  rw [← Bool.not_eq_true, ← Bool.not_eq_true, isAfter_iff, isBefore_iff]
  omega

theorem isAtOrAfter_iff (x y : Distance) : isAtOrAfter x y = true ↔ x = y ∨ isAfter x y = true := by
  rw [isAtOrAfter, Bool.or_eq_true, beq_iff_eq]

theorem distanceDiff_eq (x y : Distance) :
    distanceDiff x y =
      if (x - y).toNat ≤ 2 ^ 31 - 1 then ((x - y).toNat : Int) else ((x - y).toNat : Int) - 2 ^ 32 := by
  rw [distanceDiff, BitVec.toInt_eq_toNat_cond]
  split <;> split <;> omega

theorem distanceDiff_bounds (x y : Distance) : -(2 ^ 31) ≤ distanceDiff x y ∧ distanceDiff x y ≤ 2 ^ 31 - 1 := by
  have inRange := (x - y).isLt
  rw [distanceDiff_eq]
  split <;> omega

theorem distanceAdd_toNat (x : Distance) (k : Int) :
    ((distanceAdd x k).toNat : Int) = ((x.toNat : Int) + k) % 2 ^ 32 := by
  rw [distanceAdd, BitVec.toNat_add, BitVec.toNat_ofInt]
  omega

theorem distanceApart_eq_abs (x y : Distance) : (distanceApart x y : Int) = |distanceDiff x y| :=
  Int.natCast_natAbs _

/-! ## Sequences (R93) -/

theorem follows_iff (x y : Sequence) : follows x y = true ↔ 1 ≤ (x - y).toNat ∧ (x - y).toNat ≤ 1000 := by
  simp only [follows, Bool.and_eq_true, decide_eq_true_eq]

theorem follows_iff_exists_ahead (x y : Sequence) :
    follows x y = true ↔ ∃ k : Nat, 1 ≤ k ∧ k ≤ 1000 ∧ x = y + BitVec.ofNat 16 k := by
  rw [follows_iff]
  constructor
  · rintro ⟨low, high⟩
    exact ⟨(x - y).toNat, low, high, by rw [BitVec.ofNat_toNat, BitVec.setWidth_eq, add_sub_cancel]⟩
  · rintro ⟨k, low, high, rfl⟩
    have difference : (y + BitVec.ofNat 16 k - y).toNat = k := by
      rw [add_sub_cancel_left, BitVec.toNat_ofNat]
      omega
    omega

theorem eq_add_missingBetween_succ {x y : Sequence} (ahead : follows x y = true) :
    x = y + BitVec.ofNat 16 (missingBetween x y + 1) := by
  obtain ⟨low, -⟩ := (follows_iff x y).mp ahead
  rw [missingBetween, Nat.sub_add_cancel low, BitVec.ofNat_toNat, BitVec.setWidth_eq, add_sub_cancel]

/-- At most 1,000 ahead one way is at least 64,536 ahead the other way. -/
theorem follows_asymm {x y : Sequence} (ahead : follows x y = true) : follows y x = false := by
  rw [follows_iff] at ahead
  rw [← Bool.not_eq_true, follows_iff, toNat_sub_swap x y]
  split <;> omega

/-- Settles O15: each comparison is a range of the difference modulo 2^32 or 2^16. -/
theorem distancesAndSequencesWrapAround : Obligations.DistancesAndSequencesWrapAround :=
  ⟨fun x y k =>
    ⟨isAfter_iff x y, Iff.rfl, isBefore_iff x y, (toNat_sub_eq_zero_iff x y).symm, isAfter_isBefore_of_half_turn,
      distanceDiff_eq x y, distanceDiff_bounds x y, distanceAdd_toNat x k, isAtOrAfter_iff x y,
      distanceApart_eq_abs x y⟩,
    fun x y => ⟨follows_iff_exists_ahead x y, eq_add_missingBetween_succ, follows_asymm⟩,
    by decide⟩

/-! ## TACHOMETER_PULSE at ODO (R1, R4, R6 to R10) -/

/-- The level of T2 at the edge is the one before it, so that one gives the sense (R1). -/
@[simp] theorem t2AtEdge_eq_before (before now : Bool) : t2AtEdge before now = before := by
  unfold t2AtEdge
  split
  case isTrue same => exact same.symm
  case isFalse => rfl

@[simp] theorem isReversal_eq_true_iff (sense : Direction) (o : Odo) :
    isReversal sense o = true ↔ o.direction ≠ .unknown ∧ o.direction ≠ sense := by
  simp [isReversal]

/-- A pulse starts a measurement or ends a period, over the advanced path and with the new direction (R8). -/
theorem takePulse_eq (sense : Direction) (o : Odo) :
    takePulse sense o =
      if (o.direction ≠ .unknown ∧ o.direction ≠ sense) ∨ o.measurement = .void then
        { startMeasurement (advanceOdometer o) with direction := sense }
      else { endPeriod (advanceOdometer o) with direction := sense } := by
  simp only [takePulse, measurePulse, Bool.or_eq_true, isReversal_eq_true_iff, decide_eq_true_eq]
  split
  case isTrue starts => exact (if_pos starts).symm
  case isFalse ends => exact (if_neg ends).symm

/-- The path advances and the pulse becomes the reference, whatever it does to the measurement (R4, R9, R10). -/
theorem takePulse_path (sense : Direction) (o : Odo) :
    (takePulse sense o).odometer = o.odometer + BitVec.ofNat 32 ((o.fraction + o.pulseLength) / 1024) ∧
    (takePulse sense o).fraction = (o.fraction + o.pulseLength) % 1024 ∧
    (takePulse sense o).direction = sense ∧ (takePulse sense o).pulseLength = o.pulseLength ∧
    (takePulse sense o).captureCounter = 0 ∧ (takePulse sense o).overflowCount = 0 := by
  rw [takePulse_eq]
  split <;> exact ⟨rfl, rfl, rfl, rfl, rfl, rfl⟩

/-- The clamp of a pulse speed has work to do at its upper end alone (R10). -/
theorem pulseSpeed_eq (o : Odo) :
    pulseSpeed o = min 120000 (o.pulseLength * 15625 / (16 * measuredPeriod o)) := by
  rw [pulseSpeed, clampNat, Nat.zero_max, speedOver]

/-- A reversal and a pulse in VOID yield no speed; every other pulse yields that of the period it ends (R7, R9, R10). -/
theorem takePulse_measurement (sense : Direction) (o : Odo) :
    if (o.direction ≠ .unknown ∧ o.direction ≠ sense) ∨ o.measurement = .void then
      (takePulse sense o).measurement = .started ∧ (takePulse sense o).speed = 0
    else
      (takePulse sense o).measurement = .timed (measuredPeriod o) (pulseSpeed o) ∧
      (takePulse sense o).speed = pulseSpeed o := by
  rw [takePulse_eq]
  split
  case isTrue => exact ⟨rfl, rfl⟩
  case isFalse => exact ⟨rfl, rfl⟩

/-- ODO takes the pulse alone: neither a reversal's announcement nor TSU touches it (R8). -/
@[simp] theorem tachometerPulse_odo (sense : Direction) (crossCheckFirst : Bool) (s : State) :
    (tachometerPulse sense crossCheckFirst s).odo = takePulse sense s.odo := by
  unfold tachometerPulse
  split <;> simp

theorem exec_tachometerPulse (t : Lapse) (t2Before t2Now crossCheckFirst : Bool) (s : State) :
    exec (.tachometerPulse t t2Before t2Now crossCheckFirst) s =
      .next (tachometerPulse (pulseSense t2Before) crossCheckFirst (s.lapse t)) := by
  rw [exec, execTachometerPulse, t2AtEdge_eq_before]

/-- Settles O16: the announcement of a reversal and TSU leave ODO, so what is said is what `takePulse` does. -/
theorem pulseAdvancesPathAndMeasuresSpeed : Obligations.PulseAdvancesPathAndMeasuresSpeed := by
  intro t t2Before t2Now crossCheckFirst s u sense period v
  obtain ⟨odometer, fraction, direction, pulseLength, captureCounter, overflowCount⟩ := takePulse_path sense u.odo
  have measurement := takePulse_measurement sense u.odo
  rw [pulseSpeed_eq] at measurement
  rw [exec_tachometerPulse, completes_next, tachometerPulse_odo]
  exact ⟨odometer, fraction, direction, pulseLength, captureCounter, overflowCount, measurement⟩

end Sys2Proof.Machine
end

section
/-! SUPPORT. The local value (R25): the mean of a window of bounded values. -/

namespace Sys2Proof.Machine

/-! ## Means of bounded values -/

theorem within_sum_of_forall_within {bound : Nat} {values : List Int} (bounded : ∀ v ∈ values, within bound v) :
    within (bound * values.length) values.sum := by
  have lower := values.card_nsmul_le_sum (-(bound : Int)) fun v mem => (bounded v mem).1
  have upper := values.sum_le_card_nsmul (bound : Int) fun v mem => (bounded v mem).2
  rw [nsmul_eq_mul, mul_neg, mul_comm] at lower
  rw [nsmul_eq_mul, mul_comm] at upper
  rw [within, Nat.cast_mul]
  exact ⟨lower, upper⟩

/-- Truncation toward zero is monotone, and `count` shares of ±`bound` divide exactly. -/
theorem within_truncDiv {bound count : Nat} {total : Int} (nonempty : 0 < count)
    (bounded : within (bound * count) total) : within bound (truncDiv total count) := by
  have positive : (0 : Int) < count := Int.natCast_pos.mpr nonempty
  rw [within, Nat.cast_mul, ← neg_mul] at bounded
  obtain ⟨lower, upper⟩ := bounded
  have quotientLower := Int.tdiv_le_tdiv positive lower
  have quotientUpper := Int.tdiv_le_tdiv positive upper
  rw [Int.mul_tdiv_cancel _ positive.ne'] at quotientLower quotientUpper
  exact ⟨quotientLower, quotientUpper⟩

/-! ## The local value (R25) -/

@[simp] theorem localValue_nil : localValue [] = 0 := rfl

theorem localValue_of_ne_nil {window : List Int} (nonempty : window ≠ []) :
    localValue window = truncDiv window.sum window.length :=
  if_neg (by rwa [List.isEmpty_iff])

/-- The mean of values within a bound lies within it, however many there are. -/
theorem within_localValue {bound : Nat} {window : List Int} (bounded : ∀ v ∈ window, within bound v) :
    within bound (localValue window) := by
  rcases eq_or_ne window [] with rfl | nonempty
  · rw [localValue_nil]
    omega
  · rw [localValue_of_ne_nil nonempty]
    exact within_truncDiv (List.length_pos_iff.mpr nonempty) (within_sum_of_forall_within bounded)

/-- A window holds at most 20 values (R24), so its sum has a bound of its own. -/
theorem within_sum_of_length_le {window : List Int} (short : window.length ≤ 20)
    (bounded : ∀ v ∈ window, within 6000 v) : within 120000 window.sum := by
  have bySize := within_sum_of_forall_within bounded
  omega

theorem modeDemand_localBogie {s : State} (inLocal : s.dmd.mode = .localBogie) :
    modeDemand s = compensationDemand s.svc.config.localComp (localValue s.sns.window) := by
  rw [modeDemand, inLocal]

/-- The acceleration is clamped to ±2,000 before it is scaled (R138). -/
theorem compensationDemand_eq (compensation : Nat) (accel : Int) :
    compensationDemand compensation accel =
      ((compensation : Int) * max (-2000) (min 2000 accel) * 3829).tdiv 65536 := rfl

/-- Settles O23: the mean of the window, its bounds from those of its values, and LOCAL's own case of the demand. -/
theorem localValueIsTheTruncatedMean : Obligations.LocalValueIsTheTruncatedMean :=
  ⟨localValue_nil, fun _ => localValue_of_ne_nil,
    fun _ short bounded => ⟨within_sum_of_length_le short bounded, within_localValue bounded⟩,
    fun _ inLocal => (modeDemand_localBogie inLocal).trans (compensationDemand_eq _ _)⟩

end Sys2Proof.Machine
end

section
/-! SUPPORT. The binding rules of SRC over the two slots (R81 to R85): each rule's outcomes, one lemma per case. -/

namespace Sys2Proof.Machine

/-! ## The moves of the slots -/

@[simp] theorem slotEligible_none (g : Grounds) : slotEligible g none = false := rfl

@[simp] theorem slotEligible_some_iff (g : Grounds) (b : Source) :
    slotEligible g (some b) = true ↔ b.identity ∈ g.eligible := List.contains_iff_mem

theorem covering_eq_false_of_s_none {x : Slots} (empty : x.s = none) (lp : Option Distance) :
    covering lp x = false := by
  simp [covering, empty]

theorem emptyP_of_bound {x : Slots} {p : Source} (boundP : x.p = some p) :
    emptyP x = { x with p := none, queueP := [], changed := true } := by
  simp [emptyP, boundP]

theorem emptyS_of_bound {x : Slots} {b : Source} (boundS : x.s = some b) :
    emptyS x = { x with s := none, queueS := [], changed := true } := by
  simp [emptyS, boundS]

theorem moveSToP_of_bound {x : Slots} {b : Source} (boundS : x.s = some b) :
    moveSToP x = { x with p := some b, queueP := x.queueS, s := none, queueS := [], changed := true } := by
  rw [moveSToP, boundS]

theorem exchangeSlots_of_bound {x : Slots} {p b : Source} (boundP : x.p = some p) (boundS : x.s = some b) :
    exchangeSlots x = { x with p := some b, s := some p, queueP := x.queueS, queueS := x.queueP, changed := true } := by
  rw [exchangeSlots, boundP, boundS]

/-! ## The loss of the primary (R81) -/

theorem losePrimary_of_p_none {x : Slots} (g : Grounds) (empty : x.p = none) : losePrimary g x = x := by
  simp [losePrimary, empty]

theorem losePrimary_of_eligible {g : Grounds} {x : Slots} {p : Source} (boundP : x.p = some p)
    (eligible : p.identity ∈ g.eligible) : losePrimary g x = x := by
  simp [losePrimary, boundP, eligible]

theorem losePrimary_of_ineligible {g : Grounds} {x : Slots} {p : Source} (boundP : x.p = some p)
    (ineligible : p.identity ∉ g.eligible) :
    losePrimary g x = if slotEligible g x.s = true ∧ covering g.lp x = true then moveSToP x else emptyP x := by
  simp [losePrimary, boundP, ineligible]

theorem losePrimary_moves_second {g : Grounds} {x : Slots} {p b : Source} (boundP : x.p = some p)
    (ineligible : p.identity ∉ g.eligible) (boundS : x.s = some b) (eligibleS : b.identity ∈ g.eligible)
    (covers : covering g.lp x = true) :
    losePrimary g x = { x with p := some b, queueP := x.queueS, s := none, queueS := [], changed := true } := by
  have moves : slotEligible g x.s = true ∧ covering g.lp x = true :=
    ⟨boundS ▸ (slotEligible_some_iff g b).mpr eligibleS, covers⟩
  rw [losePrimary_of_ineligible boundP ineligible, if_pos moves, moveSToP_of_bound boundS]

theorem losePrimary_empties {g : Grounds} {x : Slots} {p : Source} (boundP : x.p = some p)
    (ineligible : p.identity ∉ g.eligible)
    (noSuccessor : ∀ b, x.s = some b → b.identity ∉ g.eligible ∨ covering g.lp x = false) :
    losePrimary g x = { x with p := none, queueP := [], changed := true } := by
  rw [losePrimary_of_ineligible boundP ineligible, ← emptyP_of_bound boundP]
  refine if_neg fun ⟨eligibleS, covers⟩ => ?_
  cases boundS : x.s with
  | none => simp [covering_eq_false_of_s_none boundS] at covers
  | some b =>
    rw [boundS, slotEligible_some_iff] at eligibleS
    rcases noSuccessor b boundS with ineligibleS | uncovered
    · exact ineligibleS eligibleS
    · simp [uncovered] at covers

/-- P holds its eligible source or the eligible one that came from S, or is empty. -/
theorem eligible_of_losePrimary_p {g : Grounds} {x : Slots} {b : Source}
    (boundAfter : (losePrimary g x).p = some b) : b.identity ∈ g.eligible := by
  cases boundP : x.p with
  | none =>
    rw [losePrimary_of_p_none g boundP, boundP] at boundAfter
    contradiction
  | some p =>
    by_cases eligible : p.identity ∈ g.eligible
    · rw [losePrimary_of_eligible boundP eligible, boundP] at boundAfter
      cases boundAfter
      exact eligible
    · rw [losePrimary_of_ineligible boundP eligible] at boundAfter
      split at boundAfter
      case isTrue moves =>
        have boundS : x.s = some b := boundAfter
        exact (slotEligible_some_iff g b).mp (boundS ▸ moves.1)
      case isFalse => exact absurd boundAfter (by simp [emptyP])

/-! ## The loss of the second (R82) -/

theorem loseSecond_of_s_none {x : Slots} (g : Grounds) (empty : x.s = none) : loseSecond g x = x := by
  simp [loseSecond, empty]

theorem loseSecond_of_eligible {g : Grounds} {x : Slots} {b : Source} (boundS : x.s = some b)
    (eligible : b.identity ∈ g.eligible) : loseSecond g x = x := by
  simp [loseSecond, boundS, eligible]

theorem loseSecond_of_ineligible {g : Grounds} {x : Slots} {b : Source} (boundS : x.s = some b)
    (ineligible : b.identity ∉ g.eligible) :
    loseSecond g x = { x with s := none, queueS := [], changed := true } := by
  rw [← emptyS_of_bound boundS]
  simp [loseSecond, boundS, ineligible]

@[simp] theorem loseSecond_p (g : Grounds) (x : Slots) : (loseSecond g x).p = x.p := by
  unfold loseSecond
  split <;> rfl

theorem eligible_of_loseSecond_s {g : Grounds} {x : Slots} {b : Source}
    (boundAfter : (loseSecond g x).s = some b) : b.identity ∈ g.eligible := by
  cases boundS : x.s with
  | none =>
    rw [loseSecond_of_s_none g boundS, boundS] at boundAfter
    contradiction
  | some c =>
    by_cases eligible : c.identity ∈ g.eligible
    · rw [loseSecond_of_eligible boundS eligible, boundS] at boundAfter
      cases boundAfter
      exact eligible
    · rw [loseSecond_of_ineligible boundS eligible] at boundAfter
      contradiction

/-- Settles O39: each rule by what is bound and eligible; what is bound after both is eligible slot by slot. -/
theorem ineligibleSourcesLeaveTheSlots : Obligations.IneligibleSourcesLeaveTheSlots := by
  refine ⟨fun g x p boundP => ⟨losePrimary_of_eligible boundP, fun ineligible =>
      ⟨fun b boundS => losePrimary_moves_second boundP ineligible boundS, losePrimary_empties boundP ineligible⟩⟩,
    fun g x => losePrimary_of_p_none g,
    fun g x => ⟨fun b boundS => loseSecond_of_ineligible boundS, fun b boundS => loseSecond_of_eligible boundS,
      loseSecond_of_s_none g, fun b boundAfter => ?_⟩⟩
  rcases boundAfter with boundS | boundP
  · exact eligible_of_loseSecond_s boundS
  · rw [loseSecond_p] at boundP
    exact eligible_of_losePrimary_p boundP

/-! ## The way of the desired primary (R83) -/

theorem raiseDesired_of_nothing_to_raise {g : Grounds} {x : Slots}
    (nothing : x.p = none ∨ g.ranking = [] ∨ g.forming = true) : raiseDesired g x = x := by
  rcases nothing with empty | noRanking | forming
  · simp [raiseDesired, empty]
  · simp [raiseDesired, noRanking]
  · simp [raiseDesired, forming]

section
variable {g : Grounds} {x : Slots} {p desired : Source} {rest : List Source}

theorem raiseDesired_of_desired (formed : g.forming = false) (boundP : x.p = some p)
    (ranked : g.ranking = desired :: rest) :
    raiseDesired g x =
      if p.identity = desired.identity then x
      else if slotIdentity x.s = desired.identity ∧ x.s.isSome = true then
        if covering g.lp x = true ∧ g.latch = false then exchangeSlots x else x
      else bindS desired x := by
  simp [raiseDesired, formed, boundP, ranked]

theorem raiseDesired_of_primary_desired (formed : g.forming = false) (boundP : x.p = some p)
    (ranked : g.ranking = desired :: rest) (same : p.identity = desired.identity) : raiseDesired g x = x := by
  rw [raiseDesired_of_desired formed boundP ranked, if_pos same]

theorem raiseDesired_of_second_desired (formed : g.forming = false) (boundP : x.p = some p)
    (ranked : g.ranking = desired :: rest) (other : p.identity ≠ desired.identity) {b : Source}
    (boundS : x.s = some b) (same : b.identity = desired.identity) :
    raiseDesired g x =
      if covering g.lp x = true ∧ g.latch = false then
        { x with p := some b, s := some p, queueP := x.queueS, queueS := x.queueP, changed := true }
      else x := by
  have inS : slotIdentity x.s = desired.identity ∧ x.s.isSome = true := by
    rw [boundS]
    exact ⟨same, rfl⟩
  rw [raiseDesired_of_desired formed boundP ranked, if_neg other, if_pos inS, exchangeSlots_of_bound boundP boundS]

theorem raiseDesired_of_desired_unbound (formed : g.forming = false) (boundP : x.p = some p)
    (ranked : g.ranking = desired :: rest) (other : p.identity ≠ desired.identity)
    (notInS : ∀ b, x.s = some b → b.identity ≠ desired.identity) :
    raiseDesired g x = { x with s := some desired, queueS := [], changed := true } := by
  have absent : ¬(slotIdentity x.s = desired.identity ∧ x.s.isSome = true) := by
    rintro ⟨same, isBoundS⟩
    obtain ⟨b, boundS⟩ := Option.isSome_iff_exists.mp isBoundS
    rw [boundS] at same
    exact notInS b boundS same
  rw [raiseDesired_of_desired formed boundP ranked, if_neg other, if_neg absent, bindS]

end

/-! ## S fills an empty P (R84) -/

theorem promoteSecond_of_p_none {g : Grounds} {x : Slots} {b : Source} (empty : x.p = none)
    (boundS : x.s = some b) :
    promoteSecond g x =
      if covering g.lp x then { x with p := some b, queueP := x.queueS, s := none, queueS := [], changed := true }
      else x := by
  rw [← moveSToP_of_bound boundS]
  simp [promoteSecond, empty]

theorem promoteSecond_of_p_bound_or_s_none {g : Grounds} {x : Slots} (stays : x.p.isSome = true ∨ x.s = none) :
    promoteSecond g x = x := by
  rcases stays with boundP | empty
  · simp [promoteSecond, Option.ne_none_iff_isSome.mpr boundP]
  · simp [promoteSecond, covering_eq_false_of_s_none empty]

/-! ## An empty S is filled (R85) -/

theorem fillSecond_of_s_bound_or_forming {g : Grounds} {x : Slots} (stays : x.s.isSome = true ∨ g.forming = true) :
    fillSecond g x = x := by
  rw [fillSecond, if_pos]
  rwa [Bool.or_eq_true, or_comm]

theorem isInP_iff (x : Slots) (b : Source) :
    (x.p.any fun p => decide (p.identity = b.identity)) = true ↔ ∃ p, x.p = some p ∧ p.identity = b.identity := by
  rw [Option.any_eq_true]
  simp only [decide_eq_true_eq]

theorem fillSecond_of_best_other {g : Grounds} {x : Slots} (empty : x.s = none) (formed : g.forming = false)
    {before after : List Source} {b : Source} (ranked : g.ranking = before ++ b :: after)
    (betterInP : ∀ c ∈ before, ∃ p, x.p = some p ∧ p.identity = c.identity)
    (notInP : ∀ p, x.p = some p → p.identity ≠ b.identity) :
    fillSecond g x = { x with s := some b, queueS := [], changed := true } := by
  have found : (g.ranking.find? fun c => !(x.p.any fun p => p.identity = c.identity)) = some b := by
    refine List.find?_eq_some_iff_append.mpr ⟨?_, before, after, ranked, fun c mem => ?_⟩
    · rw [Bool.not_eq_true', ← Bool.not_eq_true, isInP_iff]
      exact fun ⟨p, boundP, same⟩ => notInP p boundP same
    · rw [Bool.not_not, isInP_iff]
      exact betterInP c mem
  simp [fillSecond, empty, formed, found, bindS]

theorem fillSecond_of_no_other {g : Grounds} {x : Slots}
    (allInP : ∀ b ∈ g.ranking, ∃ p, x.p = some p ∧ p.identity = b.identity) : fillSecond g x = x := by
  have noneFound : (g.ranking.find? fun c => !(x.p.any fun p => p.identity = c.identity)) = none := by
    refine List.find?_eq_none.mpr fun c mem => ?_
    rw [Bool.not_eq_true, Bool.not_eq_false', isInP_iff]
    exact allInP c mem
  simp [fillSecond, noneFound]

/-- Settles O40: R83 to R85 in turn, each by what is bound and what the ranking holds. -/
theorem sourcesRiseThroughTheSecondSlot : Obligations.SourcesRiseThroughTheSecondSlot :=
  ⟨fun _ _ _ _ _ formed boundP ranked =>
    ⟨raiseDesired_of_primary_desired formed boundP ranked,
      fun other _ => raiseDesired_of_second_desired formed boundP ranked other,
      raiseDesired_of_desired_unbound formed boundP ranked⟩,
    fun _ _ => raiseDesired_of_nothing_to_raise,
    fun _ _ => ⟨fun _ => promoteSecond_of_p_none, promoteSecond_of_p_bound_or_s_none,
      fillSecond_of_s_bound_or_forming, fun empty formed _ _ _ => fillSecond_of_best_other empty formed,
      fillSecond_of_no_other⟩⟩

end Sys2Proof.Machine
end

section
/-! SUPPORT. PVQ's lookup: the order of its cases (R103), and the value between two entries (R104). -/

namespace Sys2Proof.Machine

/-! ## The first pair of successive entries around a point (cases 6 and 7 of R103) -/

theorem lookupBetween_of_pair_around {lp : Distance} {d1 d2 : PreviewEntry}
    (atOrAfterFirst : isAtOrAfter lp d1.due = true)
    (beforeSecond : isBefore lp d2.due = true) (after : List PreviewEntry) :
    lookupBetween lp (d1 :: d2 :: after) = interpolate d1 d2 lp := by
  rw [lookupBetween, atOrAfterFirst, beforeSecond]
  rfl

/-- An entry that is not the first of a pair around the point plays no part. -/
theorem lookupBetween_cons_of_not_around {lp : Distance} {e : PreviewEntry} {q : List PreviewEntry}
    (notAround : ∀ y, q[0]? = some y → (isAtOrAfter lp e.due && isBefore lp y.due) = false) :
    lookupBetween lp (e :: q) = lookupBetween lp q := by
  cases q with
  | nil => rfl
  | cons y rest => simp [lookupBetween, notAround y rfl]

theorem lookupBetween_of_first_pair_around {lp : Distance} {d1 d2 : PreviewEntry} {before after : List PreviewEntry}
    (atOrAfterFirst : isAtOrAfter lp d1.due = true) (beforeSecond : isBefore lp d2.due = true)
    (noneEarlier : ∀ i x y, i + 1 ≤ before.length → (before ++ d1 :: d2 :: after)[i]? = some x →
      (before ++ d1 :: d2 :: after)[i + 1]? = some y → (isAtOrAfter lp x.due && isBefore lp y.due) = false) :
    lookupBetween lp (before ++ d1 :: d2 :: after) = interpolate d1 d2 lp := by
  induction before with
  | nil => exact lookupBetween_of_pair_around atOrAfterFirst beforeSecond after
  | cons e before ih =>
    refine (lookupBetween_cons_of_not_around fun y => noneEarlier 0 e y (Nat.le_add_left 1 _) rfl).trans ?_
    exact ih fun i x y earlier => noneEarlier (i + 1) x y (Nat.succ_le_succ earlier)

theorem lookupBetween_of_no_pair_around {lp : Distance} {q : List PreviewEntry}
    (noneAround : ∀ i x y, q[i]? = some x → q[i + 1]? = some y →
      (isAtOrAfter lp x.due && isBefore lp y.due) = false) :
    lookupBetween lp q = .beyond := by
  induction q with
  | nil => rfl
  | cons e q ih =>
    rw [lookupBetween_cons_of_not_around fun y => noneAround 0 e y rfl]
    exact ih fun i => noneAround (i + 1)

/-! ## The cases of the table in their order (R103) -/

@[simp] theorem lookup_nil (lp : Distance) : lookup lp [] = .beyond := rfl

section
variable {lp : Distance} {q : List PreviewEntry} {head tail : PreviewEntry}

theorem lookup_of_head_tail (first : q.head? = some head) (last : q.getLast? = some tail) :
    lookup lp q =
      if isBefore lp head.due then if distanceDiff head.due lp ≤ 4000 then .covered head.accel else .before
      else if isAtOrAfter lp tail.due then if distanceDiff lp tail.due ≤ 4000 then .covered tail.accel else .beyond
      else lookupBetween lp q := by
  rw [lookup, first, last]

theorem lookup_of_before_head (first : q.head? = some head) (last : q.getLast? = some tail)
    (beforeHead : isBefore lp head.due = true) :
    lookup lp q = if distanceDiff head.due lp ≤ 4000 then .covered head.accel else .before := by
  rw [lookup_of_head_tail first last, if_pos beforeHead]

theorem lookup_of_at_or_after_tail (first : q.head? = some head) (last : q.getLast? = some tail)
    (notBeforeHead : isBefore lp head.due = false) (fromTail : isAtOrAfter lp tail.due = true) :
    lookup lp q = if distanceDiff lp tail.due ≤ 4000 then .covered tail.accel else .beyond := by
  rw [lookup_of_head_tail first last, notBeforeHead, if_neg Bool.false_ne_true, if_pos fromTail]

theorem lookup_of_inside (first : q.head? = some head) (last : q.getLast? = some tail)
    (notBeforeHead : isBefore lp head.due = false) (notFromTail : isAtOrAfter lp tail.due = false) :
    lookup lp q = lookupBetween lp q := by
  rw [lookup_of_head_tail first last, notBeforeHead, notFromTail]
  rfl

end

/-! ## The value between two entries (R104) -/

/-- Truncation keeps a quotient within whole bounds. -/
theorem truncDiv_between {low high total divisor : Int} (positive : 0 < divisor) (lower : low * divisor ≤ total)
    (upper : total ≤ high * divisor) : low ≤ truncDiv total divisor ∧ truncDiv total divisor ≤ high := by
  have quotientLower := Int.tdiv_le_tdiv positive lower
  have quotientUpper := Int.tdiv_le_tdiv positive upper
  rw [Int.mul_tdiv_cancel _ positive.ne'] at quotientLower quotientUpper
  exact ⟨quotientLower, quotientUpper⟩

/-- The share of a rise, or of a fall, at a point inside the space lies between none of it and all of it. -/
theorem share_between {rise x space : Int} (nonneg : 0 ≤ x) (inside : x < space) :
    min 0 rise ≤ truncDiv (rise * x) space ∧ truncDiv (rise * x) space ≤ max 0 rise := by
  have positive : 0 < space := nonneg.trans_lt inside
  rcases le_total 0 rise with rises | falls
  · rw [min_eq_left rises, max_eq_right rises]
    refine truncDiv_between positive ?_ (mul_le_mul_of_nonneg_left inside.le rises)
    rw [zero_mul]
    exact mul_nonneg rises nonneg
  · rw [min_eq_right falls, max_eq_left falls]
    refine truncDiv_between positive (mul_le_mul_of_nonpos_left inside.le falls) ?_
    rw [zero_mul]
    exact mul_nonpos_of_nonpos_of_nonneg falls nonneg

section
variable {d1 d2 : PreviewEntry} {lp : Distance}

theorem interpolate_of_wide (wide : 8000 < distanceDiff d2.due d1.due) : interpolate d1 d2 lp = .hole :=
  if_pos wide

theorem interpolate_of_narrow (narrow : distanceDiff d2.due d1.due ≤ 8000) :
    interpolate d1 d2 lp = .covered (d1.accel +
      truncDiv ((d2.accel - d1.accel) * distanceDiff lp d1.due) (distanceDiff d2.due d1.due)) :=
  if_neg narrow.not_gt

end

theorem interpolated_between (a1 a2 : Int) {x space : Int} (nonneg : 0 ≤ x) (inside : x < space) :
    min a1 a2 ≤ a1 + truncDiv ((a2 - a1) * x) space ∧ a1 + truncDiv ((a2 - a1) * x) space ≤ max a1 a2 := by
  obtain ⟨lower, upper⟩ := share_between (rise := a2 - a1) nonneg inside
  omega

theorem interpolated_at_first (a1 a2 space : Int) {x : Int} (atFirst : x = 0) :
    a1 + truncDiv ((a2 - a1) * x) space = a1 := by
  rw [atFirst, mul_zero, truncDiv, Int.zero_tdiv, add_zero]

/-- Settles O43: the table by where the point lies to head and tail, and then by induction over the queue; the value by
the share of the step from a1 to a2. -/
theorem lookupTakesTheFirstCase : Obligations.LookupTakesTheFirstCase := by
  refine ⟨lookup_nil, fun lp q head tail first last => ⟨lookup_of_before_head first last,
    lookup_of_at_or_after_tail first last, fun notBeforeHead notFromTail => ?_⟩, fun d1 d2 lp => ?_⟩
  · rw [lookup_of_inside first last notBeforeHead notFromTail]
    refine ⟨?_, lookupBetween_of_no_pair_around⟩
    rintro before d1 d2 after rfl atOrAfterFirst beforeSecond noneEarlier
    exact lookupBetween_of_first_pair_around atOrAfterFirst beforeSecond noneEarlier
  · intro space x nonneg inside
    obtain ⟨lower, upper⟩ := interpolated_between d1.accel d2.accel nonneg inside
    refine ⟨interpolate_of_wide, fun narrow => ⟨_, interpolate_of_narrow narrow, rfl, lower, upper,
      interpolated_at_first d1.accel d2.accel space⟩⟩

end Sys2Proof.Machine
end

section
/-! SUPPORT. The statement about XCK: which entry of the other queue is matched (R113), how a pair moves the counter and
the counts (R114), and what the latch does after it (R115, R134). -/

namespace Sys2Proof.Machine

/-! ## The nearest entry of a queue (R113) -/

/-- `m` may be matched in the presence of `y`: it is no farther from the due distance, and at the same distance it is
before it if `y` is. -/
def AsNear (due : Distance) (m y : PreviewEntry) : Prop :=
  distanceApart m.due due ≤ distanceApart y.due due ∧
  (distanceApart y.due due = distanceApart m.due due → isBefore y.due due = true → isBefore m.due due = true)

theorem AsNear.refl (due : Distance) (m : PreviewEntry) : AsNear due m m := ⟨le_rfl, fun _ before => before⟩

theorem AsNear.trans {due : Distance} {x y z : PreviewEntry} (first : AsNear due x y) (second : AsNear due y z) :
    AsNear due x z := by
  obtain ⟨xy, tieXY⟩ := first
  obtain ⟨yz, tieYZ⟩ := second
  refine ⟨xy.trans yz, fun tie before => ?_⟩
  exact tieXY (by omega) (tieYZ (by omega) before)

theorem nearer_eq_or (due : Distance) (x y : PreviewEntry) : nearer due x y = x ∨ nearer due x y = y := by
  unfold nearer
  split
  · exact .inr rfl
  · split
    · exact .inr rfl
    · exact .inl rfl

theorem nearer_asNear (due : Distance) (x y : PreviewEntry) :
    AsNear due (nearer due x y) x ∧ AsNear due (nearer due x y) y := by
  unfold nearer
  split
  case isTrue closer => exact ⟨⟨closer.le, by omega⟩, .refl due y⟩
  case isFalse notCloser =>
    split
    case isTrue tie =>
      obtain ⟨same, before⟩ : distanceApart y.due due = distanceApart x.due due ∧ isBefore y.due due = true := by
        simpa using tie
      exact ⟨⟨same.le, fun _ _ => before⟩, .refl due y⟩
    case isFalse noTie =>
      refine ⟨.refl due x, not_lt.mp notCloser, fun same before => ?_⟩
      simp [same, before] at noTie

theorem foldl_nearer_mem (due : Distance) (e : PreviewEntry) (q : List PreviewEntry) :
    q.foldl (nearer due) e ∈ e :: q := by
  induction q generalizing e with
  | nil => exact List.mem_singleton.mpr rfl
  | cons y q ih =>
    rcases List.mem_cons.mp (ih (nearer due e y)) with isHead | inTail
    · rcases nearer_eq_or due e y with isE | isY
      · exact List.mem_cons.mpr (.inl (isHead.trans isE))
      · exact List.mem_cons_of_mem _ (List.mem_cons.mpr (.inl (isHead.trans isY)))
    · exact List.mem_cons_of_mem _ (List.mem_cons_of_mem _ inTail)

theorem foldl_nearer_asNear (due : Distance) (e : PreviewEntry) (q : List PreviewEntry) :
    ∀ y ∈ e :: q, AsNear due (q.foldl (nearer due) e) y := by
  induction q generalizing e with
  | nil => simpa using AsNear.refl due e
  | cons x q ih =>
    obtain ⟨nearE, nearX⟩ := nearer_asNear due e x
    have nearHead := ih (nearer due e x) _ List.mem_cons_self
    intro y hy
    rcases List.mem_cons.mp hy with rfl | hy
    · exact nearHead.trans nearE
    rcases List.mem_cons.mp hy with rfl | hy
    · exact nearHead.trans nearX
    · exact ih _ y (List.mem_cons_of_mem _ hy)

theorem nearest_of_mem {due : Distance} {y : PreviewEntry} {q : List PreviewEntry} (inQueue : y ∈ q) :
    ∃ m ∈ q, nearest due q = some m ∧ ∀ z ∈ q, AsNear due m z := by
  cases q with
  | nil => cases inQueue
  | cons e q => exact ⟨_, foldl_nearer_mem due e q, rfl, foldl_nearer_asNear due e q⟩

/-! ## What becomes of a joined entry (R113) -/

section
variable {slot : Slot} {e : PreviewEntry} {s : State}

theorem crossCheck_of_slot_empty (empty : s.src.slotP = none ∨ s.src.slotS = none) : crossCheck slot e s = s := by
  rcases empty with empty | empty <;> simp [crossCheck, empty]

theorem crossCheck_of_bound (boundP : s.src.slotP.isSome = true) (boundS : s.src.slotS.isSome = true) :
    crossCheck slot e s = (nearest e.due (otherQueue s slot)).elim (countUnmatched s)
      fun m => if distanceApart m.due e.due ≤ 1000 then judgePair e m s else countUnmatched s := by
  rw [crossCheck, if_neg (by simp [← Option.not_isSome, boundP, boundS])]
  cases nearest e.due (otherQueue s slot) <;> rfl

theorem crossCheck_of_none_near (boundP : s.src.slotP.isSome = true) (boundS : s.src.slotS.isSome = true)
    (noneNear : ∀ m ∈ otherQueue s slot, 1000 < distanceApart m.due e.due) :
    crossCheck slot e s = countUnmatched s := by
  rw [crossCheck_of_bound boundP boundS]
  cases entries : otherQueue s slot with
  | nil => rfl
  | cons y q => exact if_neg (noneNear _ (entries ▸ foldl_nearer_mem e.due y q)).not_ge

theorem crossCheck_of_some_near (boundP : s.src.slotP.isSome = true) (boundS : s.src.slotS.isSome = true)
    (someNear : ∃ m ∈ otherQueue s slot, distanceApart m.due e.due ≤ 1000) :
    ∃ m ∈ otherQueue s slot, (∀ y ∈ otherQueue s slot, AsNear e.due m y) ∧ crossCheck slot e s = judgePair e m s := by
  obtain ⟨y, yInQueue, yNear⟩ := someNear
  obtain ⟨m, inQueue, isNearest, asNear⟩ := nearest_of_mem (due := e.due) yInQueue
  obtain ⟨noFarther, -⟩ := asNear y yInQueue
  refine ⟨m, inQueue, asNear, ?_⟩
  rw [crossCheck_of_bound boundP boundS, isNearest]
  exact if_pos (noFarther.trans yNear)

end

/-! ## The effect of a pair (R114, R115, R134) -/

/-- The pair disagrees by the agreement threshold (R114). -/
def disagree (x y : PreviewEntry) (k : Xck) : Bool := decide ((k.threshold : Int) < |x.accel - y.accel|)

/-- The counter and the counts as a judged pair leaves them, before the latch is judged (R114). -/
def countPair (x y : PreviewEntry) (k : Xck) : Xck :=
  { k with
    splitCounter := if disagree x y k then min 48 (k.splitCounter + 3) else k.splitCounter - 1
    disagreed    := if disagree x y k then min 65535 (k.disagreed + 1) else k.disagreed
    agreed       := if disagree x y k then k.agreed else min 65535 (k.agreed + 1) }

/-- DMD after a setting of the latch (R134). -/
def holdAtSplit (d : Dmd) : Dmd :=
  if d.mode = .preview then
    { d with mode := .hold, lastCause := some .split, holdRemainder := 50000, heldDemand := d.lastDemand }
  else d

theorem disagree_iff (x y : PreviewEntry) (k : Xck) :
    disagree x y k = true ↔ k.threshold < (x.accel - y.accel).natAbs := by
  rw [disagree, decide_eq_true_eq, ← Int.natCast_natAbs, Nat.cast_lt]

theorem judgePair_eq (x y : PreviewEntry) (s : State) :
    judgePair x y s = judgeSplit { s with xck := countPair x y s.xck } := by
  unfold judgePair countPair
  by_cases apart : disagree x y s.xck = true
  · rw [if_pos ((disagree_iff x y s.xck).mp apart), apart]
    rfl
  · rw [if_neg (mt (disagree_iff x y s.xck).mpr apart), Bool.eq_false_of_not_eq_true apart]
    rfl

theorem splitHold_eq (s : State) :
    splitHold s =
      { s with
        dmd        := holdAtSplit s.dmd
        svc.events := (if s.dmd.mode = .preview then s.raise (.modeChange .preview .hold .split) else s).svc.events } := by
  unfold splitHold holdAtSplit
  by_cases preview : s.dmd.mode = .preview
  · simp only [changeMode, preview]
    rfl
  · simp only [if_neg preview]

/-- Raising SPLIT leaves its record pending with that detail, whatever was pending before. -/
theorem raise_split_record (c : Change) (k : SplitCause) (n : Nat) (p q : Identity) (s : State) :
    (s.raise (.split c k n p q)).svc.events.split.pending = true ∧
    (s.raise (.split c k n p q)).svc.events.split.detail = some (.split c k n p q) := by
  change (raisedRecord _ s.svc.events.split).pending = true ∧ (raisedRecord _ s.svc.events.split).detail = _
  unfold raisedRecord
  by_cases pending : s.svc.events.split.pending = true
  · rw [if_pos pending]
    exact ⟨pending, rfl⟩
  · rw [if_neg pending]
    exact ⟨rfl, rfl⟩

theorem raise_modeChange_split (before after : TiltMode) (c : ModeCause) (s : State) :
    (s.raise (.modeChange before after c)).svc.events.split = s.svc.events.split := rfl

/-- A pair that sets the latch: SPLIT is raised, and in PREVIEW then MODE-CHANGE. -/
theorem judgePair_of_sets {x y : PreviewEntry} {s : State} (clear : s.xck.splitLatch = false)
    (high : 24 ≤ (countPair x y s.xck).splitCounter) :
    judgePair x y s =
      { s with
        xck := { countPair x y s.xck with
          splitLatch := true, latchSettings := min 65535 (s.xck.latchSettings + 1) }
        dmd := holdAtSplit s.dmd
        svc.events :=
          let told := s.raise (.split .set .count (countPair x y s.xck).splitCounter
            (slotIdentity s.src.slotP) (slotIdentity s.src.slotS))
          (if s.dmd.mode = .preview then told.raise (.modeChange .preview .hold .split) else told).svc.events } := by
  obtain ⟨-, -, judged⟩ | ⟨set, -, -⟩ | ⟨notSets, -, -⟩ := judgeSplit_cases { s with xck := countPair x y s.xck }
  · rw [judgePair_eq, judged, splitHold_eq]
    by_cases preview : s.dmd.mode = .preview
    · simp only [raiseSplit, State.raise_dmd, preview, reduceIte]
      rfl
    · simp only [raiseSplit, State.raise_dmd, preview, reduceIte]
      rfl
  · exact absurd (clear.symm.trans set) Bool.false_ne_true
  · exact absurd ⟨clear, high⟩ notSets

/-- A pair that clears the latch: SPLIT is raised. -/
theorem judgePair_of_clears {x y : PreviewEntry} {s : State} (set : s.xck.splitLatch = true)
    (zero : (countPair x y s.xck).splitCounter = 0) :
    judgePair x y s =
      { s with
        xck        := { countPair x y s.xck with splitLatch := false }
        svc.events := (s.raise (.split .clear .count (countPair x y s.xck).splitCounter
          (slotIdentity s.src.slotP) (slotIdentity s.src.slotS))).svc.events } := by
  obtain ⟨clear, -, -⟩ | ⟨-, -, judged⟩ | ⟨-, notClears, -⟩ := judgeSplit_cases { s with xck := countPair x y s.xck }
  · exact absurd (clear.symm.trans set) Bool.false_ne_true
  · rw [judgePair_eq, judged]
    rfl
  · exact absurd ⟨set, zero⟩ notClears

/-- A pair that leaves the latch: only the counter and the counts move. -/
theorem judgePair_of_latch_stays {x y : PreviewEntry} {s : State}
    (notSets : ¬(s.xck.splitLatch = false ∧ 24 ≤ (countPair x y s.xck).splitCounter))
    (notClears : ¬(s.xck.splitLatch = true ∧ (countPair x y s.xck).splitCounter = 0)) :
    judgePair x y s = { s with xck := countPair x y s.xck } := by
  obtain ⟨clear, high, -⟩ | ⟨set, zero, -⟩ | ⟨-, -, judged⟩ := judgeSplit_cases { s with xck := countPair x y s.xck }
  · exact absurd ⟨clear, high⟩ notSets
  · exact absurd ⟨set, zero⟩ notClears
  · rw [judgePair_eq, judged]

/-- Settles O44: the matching by a fold that keeps an entry as near as every one passed, the judgement by the three cases
of the latch after the counter's move. -/
theorem joinedEntriesAreCrossChecked : Obligations.JoinedEntriesAreCrossChecked := by
  refine ⟨fun slot e s => ⟨crossCheck_of_slot_empty, fun boundP boundS =>
    ⟨crossCheck_of_none_near boundP boundS, fun someNear => ?_⟩⟩, fun x y s => ?_⟩
  · obtain ⟨m, inQueue, asNear, judged⟩ := crossCheck_of_some_near boundP boundS someNear
    exact ⟨m, inQueue, fun z hz => (asNear z hz).1, fun z hz => (asNear z hz).2, judged⟩
  · intro v disagrees counter sets clears detail told
    by_cases setting : s.xck.splitLatch = false ∧ 24 ≤ counter
    · have isSet : sets = true := decide_eq_true setting
      have notCleared : clears = false := decide_eq_false fun clearing => by simp [setting.1] at clearing
      have judged : v = _ := judgePair_of_sets setting.1 setting.2
      have toldSet : told = s.raise (detail .set) := if_pos isSet
      rw [toldSet, isSet, notCleared, judged]
      refine ⟨rfl, by simp only [holdAtSplit, true_and], fun _ => ?_, fun cleared => absurd cleared Bool.false_ne_true,
        by simp only [true_and]; rfl, rfl⟩
      simp only
      split
      · rw [raise_modeChange_split]
        exact raise_split_record ..
      · exact raise_split_record ..
    by_cases clearing : s.xck.splitLatch = true ∧ counter = 0
    · have notSet : sets = false := decide_eq_false setting
      have isCleared : clears = true := decide_eq_true clearing
      have judged : v = _ := judgePair_of_clears clearing.1 clearing.2
      have toldCleared : told = s.raise (detail .clear) := by simp only [told, notSet, isCleared]; rfl
      rw [toldCleared, notSet, isCleared, judged]
      exact ⟨rfl, rfl, fun set => absurd set Bool.false_ne_true, fun _ => raise_split_record .., rfl, rfl⟩
    · have notSet : sets = false := decide_eq_false setting
      have notCleared : clears = false := decide_eq_false clearing
      have judged : v = _ := judgePair_of_latch_stays setting clearing
      have toldNothing : told = s := by simp only [told, notSet, notCleared]; rfl
      rw [toldNothing, notSet, notCleared, judged]
      exact ⟨rfl, rfl, fun set => absurd set Bool.false_ne_true, fun cleared => absurd cleared Bool.false_ne_true,
        rfl, rfl⟩

end Sys2Proof.Machine
end

section
/-! SUPPORT. The statement about the FAILED latch: how a cause other than CONFIG sets it (R154), and how RESET_FAILED
releases it (R155, R171). -/

namespace Sys2Proof.Machine

/-! ## The record of a raised kind (R172) -/

theorem raisedRecord_pending (d : Detail) (r : EventRecord) : (raisedRecord d r).pending = true := by
  unfold raisedRecord
  split
  · assumption
  · rfl

theorem raisedRecord_detail {d : Detail} (replaces : kindOf d ≠ .queueLoss) (r : EventRecord) :
    (raisedRecord d r).detail = some d := by
  unfold raisedRecord
  rw [if_neg replaces]
  split <;> rfl

/-! ## A cause other than CONFIG (R154) -/

/-- ACT after a cause other than CONFIG: a set latch keeps its cause and the drive. -/
def latchFailure (cause : FailureCause) (a : Act) : Act :=
  if a.failedLatch then a
  else
    { a with failedLatch := true, failureCause := some cause, enable := false, duty := 0, blanking := 0
             trackingCount := 0 }

theorem failActuator_eq (cause : FailureCause) (s : State) :
    failActuator cause s =
      { s.raise (.actuatorFault cause s.act.failedLatch) with act := latchFailure cause s.act } := by
  unfold failActuator latchFailure
  by_cases set : s.act.failedLatch = true
  · rw [if_pos set, if_pos set, set]
    rfl
  · rw [if_neg set, if_neg set, Bool.eq_false_of_not_eq_true set]
    rfl

/-! ## RESET_FAILED with an empty payload (R155, R171) -/

theorem exec_resetFailed_nil (t : Lapse) (s : State) : exec (.resetFailed t []) s = .next (resetFailed (s.lapse t)) :=
  rfl

/-- The reason RESET_FAILED is refused for: START before the conditions of the release. -/
def resetReason (s : State) : Option RefusalReason :=
  if s.svc.startState = .loading then some .start else resetFailedRefusal s

/-- Without a reason the answer is DONE, and a set latch is cleared. -/
theorem resetFailed_eq (s : State) :
    resetFailed s =
      match resetReason s with
      | some r => answerRefused 8 r s
      | none   => if s.act.failedLatch then answerDone 8 [] (clearFailed s) else answerDone 8 [] s := by
  unfold resetFailed resetReason
  by_cases start : s.svc.startState = .loading
  · rw [if_pos start, if_pos start]
  · rw [if_neg start, if_neg start]
    cases resetFailedRefusal s with
    | some r => rfl
    | none => exact apply_ite (answerDone 8 []) _ _ _

/-- Settles O52: the first part is what `failActuator` does to ACT and to the record of its kind; in the second
the reason of the refusal decides, and without one the level of the latch. -/
theorem failedLatchIsSetAndReleased : Obligations.FailedLatchIsSetAndReleased := by
  refine ⟨fun cause s => ?_, fun t s => ?_⟩
  · intro v
    have latched : v = _ := failActuator_eq cause s
    rw [latched]
    exact ⟨rfl, raisedRecord_pending _ _, raisedRecord_detail (by simp [kindOf]) _, rfl, rfl⟩
  · intro u reason
    have isReason : reason = resetReason u := by simp [reason, resetReason, resetFailedRefusal]
    rw [exec_resetFailed_nil, resetFailed_eq, ← isReason]
    cases reason <;> rfl

end Sys2Proof.Machine
end

section
/-! SUPPORT. What one command can do, said once for every command: after its lapse it is POWER_ON, CONTROL_EXPIRY, or a
chain of moves, each an operation of one unit. What every move keeps, every step keeps. -/

namespace Sys2Proof.Machine

/-! ## The effect of a command after its lapse -/

/-- The lapse that a command carries; POWER_ON carries none. -/
def lapseOf : Instr → Lapse
  | .powerOn _ _ => ⟨0, .bytes, .bytes⟩
  | .tachometerPulse t _ _ _ | .captureCounterWrap t | .pollExpiry t | .bogieFrame t _ | .bodyAngleFrame t _
  | .sensorReplyTimeout t | .lineSignalDetected t _ | .signalLoss t _ | .settleTimeExpiry t _ | .farEndUp t _
  | .flagTimeExpiry t _ | .markerTimeExpiry t _ | .frameTruncated t _ _ | .frameFormatError t _ _
  | .linkFrameReceived t _ _ _ _ _ | .transmitComplete t _ | .triggerHoldExpiry t | .quietTimerExpiry t
  | .controlExpiry t | .supplyOkLineChange t _ | .supplyOkDebounceExpiry t | .inhibitLineChange t _
  | .inhibitDebounceExpiry t | .carStateTimerExpiry t | .configReadComplete t _ _ | .configLoadRetry t
  | .configLoadTimeout t _ | .requestGapTimeout t | .unknownRequest t _ _ _ | .readStatus t _ | .readRoster t _
  | .readSlots t _ | .readCounters t _ | .fetchEvent t _ | .setLocalInhibit t _ | .sendOrder t _ | .resetFailed t _
  | .restart t _ | .startPatternFound t _ => t

/-- What a well-formed command does to the state that its lapse leaves. -/
def effect : Instr → State → State
  | .powerOn x y => fun s => State.powerOn s.svc.factorySerial x y s.pending
  | .tachometerPulse _ t2Before t2Now x => tachometerPulse (pulseSense (t2AtEdge t2Before t2Now)) x
  | .captureCounterWrap _ => fun s => { s with odo := takeWrap s.odo }
  | .pollExpiry _ => pollSensors
  | .bogieFrame _ r => receiveBogieReply r
  | .bodyAngleFrame _ r => receiveBodyReply r
  | .sensorReplyTimeout _ => endWait
  | .lineSignalDetected _ e => detectSignal e
  | .signalLoss _ e => loseSignal e
  | .settleTimeExpiry _ e => settleExpires e
  | .farEndUp _ e => farEndUp e
  | .flagTimeExpiry _ e => flagExpires e
  | .markerTimeExpiry _ e => markerExpires e
  | .frameTruncated _ e f => truncateFrame e f
  | .frameFormatError _ e _ => formatError e
  | .linkFrameReceived _ e f check offerFirst queueFirst => receiveFrame e f check offerFirst queueFirst
  | .transmitComplete _ e => endFrame e
  | .triggerHoldExpiry _ => expireTriggerHold
  | .quietTimerExpiry _ => expireQuietTimer
  | .controlExpiry _ => controlExpiry
  | .supplyOkLineChange _ high => changeRawSupply high
  | .supplyOkDebounceExpiry _ => expireSupplyDebounce
  | .inhibitLineChange _ active => changeRawInhibit active
  | .inhibitDebounceExpiry _ => expireInhibitDebounce
  | .carStateTimerExpiry _ => expireCarStateTimer
  | .configReadComplete _ r x => completeRead r x
  | .configLoadRetry _ => retryRead
  | .configLoadTimeout _ x => abandonLoad x
  | .requestGapTimeout _ => id
  | .unknownRequest _ code _ _ => answerMalformed code
  | .readStatus _ p => requestStatus p
  | .readRoster _ p => requestRoster p
  | .readSlots _ p => requestSlots p
  | .readCounters _ p => requestCounters p
  | .fetchEvent _ p => requestEvent p
  | .setLocalInhibit _ p => requestLocalInhibit p
  | .sendOrder _ p => requestOrder p
  | .resetFailed _ p => requestResetFailed p
  | .restart _ p => requestRestart p
  | .startPatternFound _ e => findPattern e

/-- A command is its lapse and then its effect, where its term is well formed. -/
theorem exec_eq (i : Instr) (s : State) : exec i s = whenWf i.wf (effect i (s.lapse (lapseOf i))) := by
  cases i <;> rfl

theorem exec_of_wf {i : Instr} (wf : i.wf = true) (s : State) :
    exec i s = .next (effect i (s.lapse (lapseOf i))) := by
  rw [exec_eq, wf]; rfl

theorem exec_of_not_wf {i : Instr} (illFormed : i.wf = false) (s : State) : exec i s = .fault .illFormed := by
  rw [exec_eq, illFormed]; rfl

theorem eq_effect_of_exec {i : Instr} {s s' : State} (answered : exec i s = .next s') :
    i.wf = true ∧ s' = effect i (s.lapse (lapseOf i)) := by
  cases wf : i.wf
  · rw [exec_of_not_wf wf] at answered; cases answered
  · rw [exec_of_wf wf] at answered; cases answered; exact ⟨rfl, rfl⟩

/-! ## The moves -/

/-- What one command can do to a port besides the joining of a frame (R34 to R39, R44). -/
inductive PortMove (now : Nat) (p : Port) : Port → Prop
  /-- Times, receiver and counters move; a counter that moves saturates. -/
  | keeps {q : Port} (line : q.line = p.line) (farEnd : q.farEnd = p.farEnd) (notices : q.notices = p.notices)
      (streams : q.streams = p.streams) (sending : q.sending = p.sending)
      (counters : ∀ n ∈ portCounterList q.counters, n ∈ portCounterList p.counters ∨ n ≤ 65535) : PortMove now p q
  | settles (down : p.line = .down) : PortMove now p (settlePort p)
  | clearsFlag : PortMove now p { p with farEnd := false, flagTime := 0 }
  | goesUp : PortMove now p (upPort p)
  | losesSettling (settling : p.line = .settling) : PortMove now p (lostPort p)
  | losesUp : PortMove now p (flushPort (lostPort p))
  | hearsMarker : PortMove now p (markedPort p)
  | chooses (busy : p.sending.isSome = true) : PortMove now p (chooseNext now p)

/-- RCL may enter an epoch or keep a trigger: START is done, or its trigger hold runs (R52, R53). -/
def takesTriggers (s : State) : Prop := s.svc.startState = .done ∨ s.rcl.triggerHold.isSome = true

/-- A frame's update of a matching roster entry (R67, R68). -/
def isUpdate (now : Nat) (f : RosterEntry → RosterEntry) : Prop :=
  (∃ c, f = applyCarState now c) ∨ ∃ t, f = applySample now t

/-- How a load can end: with a record read, or with the fault of one not read (R167, R168). -/
def isOutcome (serial : BitVec 64) (o : LoadOutcome) : Prop :=
  (∃ r, o = readOutcome serial r) ∨ ∃ fault, o = failedLoad serial fault

/-- The operations of single units of which every command but POWER_ON and CONTROL_EXPIRY is a chain. -/
inductive Move (s : State) : State → Prop
  | raises (d : Detail) (kind : kindOf d ≠ .conditionChange) : Move s (s.raise d)
  | movesPort (e : End) {p : Port} (move : PortMove s.now (s.port e) p) : Move s (s.setPort e p)
  | offers (e : End) (f : LinkFrame) (hop : f.hop.toNat ≤ 15) : Move s (offerTo e f s)
  | notesEpoch (epoch : Epoch) : Move s (noteEpoch epoch s)
  | entersEpoch (epoch : Epoch) (takes : takesTriggers s) : Move s (beginEpoch epoch s)
  | keepsTrigger (hold : Option Nat) (kept : Bool) (takes : takesTriggers s) :
      Move s { s with rcl.triggerHold := hold, rcl.pendingTrigger := kept }
  | storesEntry (e : End) (hop : Byte) (entry : RollEntry) (started : s.svc.startState = .done)
      (forming : s.rcl.trainState = .forming) : Move s (storeRollEntry e hop entry s)
  | updatesEntries (id : Identity) (e : End) (hop : Byte) {f : RosterEntry → RosterEntry} (update : isUpdate s.now f) :
      Move s (applyToRosters id e hop f s)
  | judges : Move s (judgeAtFrame s)
  | stopsQuiet : Move s { s with rcl.quietTimer := none }
  | forms (runs : s.rcl.quietTimer.isSome = true) : Move s (formTrain { s with rcl.quietTimer := none })
  | formsWithout (outcome : TrainState) (runs : s.rcl.quietTimer.isSome = true)
      (fails : outcome = .oversize ∨ outcome = .conflict) :
      Move s (formWithout outcome { s with rcl.quietTimer := none })
  | takesSample (t : TrackSample) (age : Nat) : Move s (takeSample t age s)
  | reportsNeighbour (e : End) (hop : Byte) (c : CarStateFrame) : Move s (reportNeighbour e hop c s)
  | takesOrder (o : TiltOrder) : Move s (takeOrder o s)
  | pulses (sense : Direction) : Move s { s with odo := takePulse sense s.odo }
  | wraps : Move s { s with odo := takeWrap s.odo }
  | slows : Move s { s with odo := evaluateSpeed s.odo }
  | startsInterval (started : s.svc.startState = .done) : Move s (startInterval s)
  | discardsInterval : Move s (discardInterval s)
  | numbersSample (n : Sequence) : Move s { s with tsu.sequence := n }
  | resetsSplit (cause : SplitCause) : Move s (resetSplit cause s)
  | reverses : Move s (sourceReversal s)
  | endsHold : Move s (demandReversal s)
  | requests (unit : SensorUnit) : Move s (sendSensorRequest unit s)
  | takesBogie (v : Verdict) : Move s (takeBogieFrame v s)
  | takesBody (v : Verdict) (angle : ∀ theta, v = .good theta → within 15000 theta) : Move s (takeBodyFrame v s)
  | endsPoll : Move s { s with sns.wait := .idle }
  | changesRawSupply (high : Bool) : Move s (changeRawSupply high s)
  | changesSupply (differs : s.act.rawSupply ≠ s.act.supplyOk) : Move s (supplyChanges s)
  | changesRawInhibit (active : Bool) : Move s (changeRawInhibit active s)
  | changesInhibit : Move s (inhibitChanges s)
  | startsCarStateTimer (runs : s.svc.startState = .done ∨ s.cso.carStateTimer.isSome = true) :
      Move s { s with cso.carStateTimer := some 0 }
  | handsRecord {o : LoadOutcome} (loading : s.svc.startState = .loading) (ends : isOutcome s.svc.factorySerial o) :
      Move s (handRecord o s)
  | endsStart : Move s { s with svc.startState := .done }
  | retries : Move s { s with svc.tryTime := 0 }
  | answers (bytes : List Byte) : Move s { s with svc.answer := bytes }
  | countsMalformed : Move s { s with svc.malformed := addSat16 s.svc.malformed 1 }
  | fetches (kind : EventKind) : Move s (clearFetched kind s)
  | setsLocalInhibit (on : Bool) : Move s { s with dmd.localInhibit := on }
  | clearsFailed (latched : s.act.failedLatch = true) (allowed : resetFailedRefusal s = none) : Move s (clearFailed s)
  | restarts (allowed : restartRefusal s = none) : Move s (restartUnits s)

/-- A chain of moves. -/
abbrev Moves : State → State → Prop := Relation.ReflTransGen Move

theorem Move.moves {s s' : State} (move : Move s s') : Moves s s' := .single move

/-! ## Chains that send frames -/

theorem originate_moves (body : FrameBody) (s : State) : Moves s (originate body s) :=
  (Move.offers .a (ownFrame body) (by simp [ownFrame])).moves.tail (.offers .b _ (by simp [ownFrame]))

theorem forward_moves (e : End) (f : LinkFrame) (s : State) : Moves s (forward e f s) := by
  unfold forward
  split
  · exact (Move.offers (otherEnd e) _ (by simp only [BitVec.toNat_add]; simp; omega)).moves
  · exact .refl

theorem sendCarState_moves {s : State} (runs : s.svc.startState = .done ∨ s.cso.carStateTimer.isSome = true) :
    Moves s (sendCarState s) :=
  (originate_moves (.carState (buildCarState s)) s).tail (.startsCarStateTimer (by simpa using runs))

theorem sendTiltOrder_moves (target : Byte) (action : OrderAction) (s : State) :
    Moves s (sendTiltOrder target action s) :=
  (originate_moves _ s).tail (.takesOrder _)

/-! ## Chains of RCL -/

theorem enterEpoch_moves {s : State} (epoch : Epoch) (takes : takesTriggers s) : Moves s (enterEpoch epoch s) :=
  ((Move.entersEpoch epoch takes).moves.tail (.offers .a _ (by simp [ownFrame]))).tail
    (.offers .b _ (by simp [ownFrame]))

theorem startRollCall_moves {s : State} (takes : takesTriggers s) : Moves s (startRollCall s) :=
  (originate_moves _ s).trans (enterEpoch_moves _ (by simpa [takesTriggers] using takes))

theorem takeTrigger_moves (s : State) : Moves s (takeTrigger s) := by
  obtain ⟨-, same⟩ | ⟨started, -, kept⟩ | ⟨started, -, starts⟩ := takeTrigger_cases s
  · rw [same]
  · rw [kept]
    exact (Move.keepsTrigger s.rcl.triggerHold true (.inl started)).moves
  · rw [starts]
    exact (Move.keepsTrigger (some 0) s.rcl.pendingTrigger (.inl started)).moves.trans
      (startRollCall_moves (.inl started))

theorem expireTriggerHold_moves (s : State) : Moves s (expireTriggerHold s) := by
  unfold expireTriggerHold endTriggerHold
  split
  · next runs =>
    split
    · exact (Move.keepsTrigger (some 0) false (.inr runs)).moves.trans (startRollCall_moves (.inr rfl))
    · exact (Move.keepsTrigger none s.rcl.pendingTrigger (.inr runs)).moves
  · exact .refl

theorem enterOnReceipt_moves {s : State} (epoch : Epoch) (started : s.svc.startState = .done) :
    Moves s (enterOnReceipt epoch s) :=
  (Move.keepsTrigger s.rcl.triggerHold false (.inl started)).moves.trans (enterEpoch_moves epoch (.inl started))

@[simp] theorem noteEpoch_startState (epoch : Epoch) (s : State) :
    (noteEpoch epoch s).svc.startState = s.svc.startState := by
  unfold noteEpoch; split <;> rfl

theorem takeRollStart_moves (epoch : Epoch) (s : State) : Moves s (takeRollStart epoch s) := by
  unfold takeRollStart
  dsimp only
  split
  · next starts =>
    simp only [Bool.and_eq_true, decide_eq_true_eq] at starts
    exact (Move.notesEpoch epoch).moves.trans (enterOnReceipt_moves epoch (by simpa using starts.1))
  · exact (Move.notesEpoch epoch).moves

theorem enterOnReceipt_forming (epoch : Epoch) (s : State) : (enterOnReceipt epoch s).rcl.trainState = .forming := by
  unfold enterOnReceipt enterEpoch sendRollEntry beginEpoch noteEpoch
  simp only [offerTo_frame]
  split <;> rfl

theorem enterOnReceipt_startState (epoch : Epoch) (s : State) :
    (enterOnReceipt epoch s).svc.startState = s.svc.startState := by
  simp [enterOnReceipt]

theorem takeRollEntry_moves (e : End) (hop : Byte) (entry : RollEntry) (s : State) :
    Moves s (takeRollEntry e hop entry s) := by
  unfold takeRollEntry
  dsimp only
  refine (Move.notesEpoch entry.epoch).moves.trans ?_
  split
  · exact .refl
  · next notLoading =>
    have started : (noteEpoch entry.epoch s).svc.startState = .done := by
      cases h : s.svc.startState <;> simp_all
    split
    · exact (enterOnReceipt_moves _ started).tail (.storesEntry e hop entry
        ((enterOnReceipt_startState _ _).trans started) (enterOnReceipt_forming _ _))
    · split
      · split
        · next forming =>
          refine (Move.storesEntry e hop entry started ?_).moves
          unfold noteEpoch; split <;> exact forming
        · exact takeTrigger_moves _
        · exact .refl
      · exact .refl

theorem takeLiveness_moves {s : State} (id : Identity) (e : End) (hop : Byte) {f : RosterEntry → RosterEntry}
    (update : isUpdate s.now f) : Moves s (takeLiveness id e hop f s) := by
  obtain ⟨-, applied⟩ | ⟨-, -, trigger⟩ | ⟨-, -, same⟩ := takeLiveness_cases id e hop f s
  · rw [applied]
    exact (Move.updatesEntries id e hop update).moves.tail .judges
  · rw [trigger]
    exact takeTrigger_moves s
  · rw [same]

theorem judgeRoster_outcome {r : Rcl} {outcome : TrainState} (judged : judgeRoster r = some outcome) :
    outcome = .formed ∨ outcome = .oversize ∨ outcome = .conflict := by
  unfold judgeRoster at judged
  split at judged
  · simp_all
  · split at judged
    · simp_all
    · split at judged <;> simp_all

theorem expireQuietTimer_moves (s : State) : Moves s (expireQuietTimer s) := by
  unfold expireQuietTimer endQuietTimer
  dsimp only
  split
  · next runs =>
    split
    · exact Move.stopsQuiet.moves.trans (takeTrigger_moves _)
    · exact (Move.forms runs).moves
    · next outcome notFormed judged =>
      exact (Move.formsWithout outcome runs ((judgeRoster_outcome judged).resolve_left notFormed)).moves
  · exact .refl

/-! ## Chains of the ports -/

theorem reportChange_moves (e : End) (up : Bool) (cause : PortCause) (s : State) :
    Moves s (reportChange e up cause s) :=
  (Move.raises _ (by simp [kindOf])).moves.trans (takeTrigger_moves _)

theorem goUp_moves (e : End) (cause : PortCause) (s : State) : Moves s (goUp e cause s) :=
  (Move.movesPort e .goesUp).moves.trans (reportChange_moves _ _ _ _)

/-- Times and receiver of a port move, and its counters stay. -/
theorem PortMove.ofTimes {now : Nat} {p q : Port} (line : q.line = p.line) (farEnd : q.farEnd = p.farEnd)
    (notices : q.notices = p.notices) (streams : q.streams = p.streams) (sending : q.sending = p.sending)
    (counters : q.counters = p.counters) : PortMove now p q :=
  .keeps line farEnd notices streams sending fun _ mem => .inl (counters ▸ mem)

theorem settleExpires_moves (e : End) (s : State) : Moves s (settleExpires e s) := by
  have toEnd : Move s (s.setPort e { s.port e with settleTime := ms 10 }) :=
    .movesPort e (.ofTimes rfl rfl rfl rfl rfl rfl)
  unfold settleExpires
  dsimp only
  split
  · split
    · exact toEnd.moves
    · exact toEnd.moves.trans (goUp_moves _ _ _)
  · exact .refl

theorem farEndUp_moves (e : End) (s : State) : Moves s (farEndUp e s) := by
  have toEnd : Move s (s.setPort e { s.port e with clearFillTime := 500 }) :=
    .movesPort e (.ofTimes rfl rfl rfl rfl rfl rfl)
  unfold farEndUp
  split
  · exact toEnd.moves.trans (goUp_moves _ _ _)
  · exact .refl

theorem flagExpires_moves (e : End) (s : State) : Moves s (flagExpires e s) := by
  have clears : Move s (s.setPort e { s.port e with farEnd := false, flagTime := 0 }) := .movesPort e .clearsFlag
  unfold flagExpires
  dsimp only
  split
  · split
    · exact clears.moves.trans (goUp_moves _ _ _)
    · exact clears.moves
  · exact .refl

theorem loseSignal_moves (e : End) (s : State) : Moves s (loseSignal e s) := by
  unfold loseSignal
  split
  · exact .refl
  · next settling => exact (Move.movesPort e (.losesSettling settling)).moves
  · exact (Move.movesPort e .losesUp).moves.trans (reportChange_moves _ _ _ _)

theorem markerExpires_moves (e : End) (s : State) : Moves s (markerExpires e s) := by
  unfold markerExpires
  split
  · exact (Move.movesPort e .hearsMarker).moves.trans (reportChange_moves _ _ _ _)
  · exact .refl

theorem detectSignal_moves (e : End) (s : State) : Moves s (detectSignal e s) := by
  unfold detectSignal
  split
  · next down => exact (Move.movesPort e (.settles down)).moves
  · exact .refl

@[simp] theorem heardByte_frame (p : Port) :
    (heardByte p).line = p.line ∧ (heardByte p).farEnd = p.farEnd ∧ (heardByte p).receiver = p.receiver ∧
    (heardByte p).notices = p.notices ∧ (heardByte p).streams = p.streams ∧ (heardByte p).sending = p.sending ∧
    (heardByte p).counters = p.counters := by
  unfold heardByte; split <;> exact ⟨rfl, rfl, rfl, rfl, rfl, rfl, rfl⟩

@[simp] theorem heardFill_frame (f : Fill) (p : Port) :
    (heardFill f p).line = p.line ∧ (heardFill f p).farEnd = p.farEnd ∧ (heardFill f p).receiver = p.receiver ∧
    (heardFill f p).notices = p.notices ∧ (heardFill f p).streams = p.streams ∧
    (heardFill f p).sending = p.sending ∧ (heardFill f p).counters = p.counters := by
  unfold heardFill; split <;> exact ⟨by simp_all, rfl, rfl, rfl, rfl, rfl, rfl⟩

theorem findPattern_moves (e : End) (s : State) : Moves s (findPattern e s) := by
  unfold findPattern
  split
  · exact (Move.movesPort e (.ofTimes (by simp) (by simp) (by simp) (by simp) (by simp) (by simp))).moves
  · exact .refl

theorem addSat16_le (n k : Nat) : addSat16 n k ≤ 65535 := Nat.min_le_left _ _

theorem truncateFrame_moves (e : End) (f : Fill) (s : State) : Moves s (truncateFrame e f s) := by
  unfold truncateFrame
  dsimp only
  split
  · exact (Move.movesPort e (.ofTimes (by simp) (by simp) (by simp) (by simp) (by simp) (by simp))).moves
  · refine (Move.movesPort e (.keeps ?_ ?_ ?_ ?_ ?_ ?_)).moves <;> simp [hunt, portCounterList, addSat16_le]

theorem formatError_moves (e : End) (s : State) : Moves s (formatError e s) := by
  unfold formatError
  dsimp only
  split
  · exact (Move.movesPort e (.ofTimes (by simp) (by simp) (by simp) (by simp) (by simp) (by simp))).moves
  · refine (Move.movesPort e (.keeps ?_ ?_ ?_ ?_ ?_ ?_)).moves <;> simp [hunt, portCounterList, addSat16_le]

theorem endFrame_moves (e : End) (s : State) : Moves s (endFrame e s) := by
  unfold endFrame
  split
  · next busy => exact (Move.movesPort e (.chooses busy)).moves
  · exact .refl

/-! ## The acceptance of a frame -/

theorem handFrame_moves (e : End) (f : LinkFrame) (queueFirst : Bool) (s : State) :
    Moves s (handFrame e f queueFirst s) := by
  unfold handFrame
  split
  · exact takeRollStart_moves _ s
  · exact takeRollEntry_moves _ _ _ s
  · next t _ =>
    split
    · exact (Move.takesSample t f.age.toNat).moves.trans (takeLiveness_moves _ _ _ (.inr ⟨t, by simp⟩))
    · exact (takeLiveness_moves _ _ _ (.inr ⟨t, rfl⟩)).tail (.takesSample _ _)
  · next c _ => exact (takeLiveness_moves _ _ _ (.inl ⟨c, rfl⟩)).tail (.reportsNeighbour _ _ _)
  · exact (Move.takesOrder _).moves

theorem acceptFrame_moves (e : End) (f : LinkFrame) (offerFirst queueFirst : Bool) (s : State) :
    Moves s (acceptFrame e f offerFirst queueFirst s) := by
  have counts : Move s (s.setPort e
      { s.port e with counters.accepted := addSat16 (s.port e).counters.accepted 1 }) :=
    .movesPort e (.keeps rfl rfl rfl rfl rfl (by simp [portCounterList, addSat16_le]))
  unfold acceptFrame
  dsimp only
  refine counts.moves.trans ?_
  split
  · exact (forward_moves _ _ _).trans (handFrame_moves _ _ _ _)
  · exact (handFrame_moves _ _ _ _).trans (forward_moves _ _ _)

theorem receiveFrame_moves (e : End) (f : LinkFrame) (check : Check) (offerFirst queueFirst : Bool) (s : State) :
    Moves s (receiveFrame e f check offerFirst queueFirst s) := by
  have hunts : Move s (s.setPort e (hunt (heardByte (s.port e)))) :=
    .movesPort e (.ofTimes (by simp [hunt]) (by simp [hunt]) (by simp [hunt]) (by simp [hunt]) (by simp [hunt])
      (by simp [hunt]))
  unfold receiveFrame
  dsimp only
  split
  · exact .refl
  · split
    · refine (Move.movesPort e (.keeps ?_ ?_ ?_ ?_ ?_ ?_)).moves <;> simp [hunt, portCounterList, addSat16_le]
    · split
      · exact hunts.moves.trans (acceptFrame_moves _ _ _ _ _)
      · exact hunts.moves

/-! ## Chains of ODO, TSU and SNS -/

theorem started_of_samplingConditions {s : State} (sampling : samplingConditions s = true) :
    s.svc.startState = .done := by
  simp only [samplingConditions, Bool.and_eq_true, decide_eq_true_eq] at sampling
  exact sampling.1.1

theorem samplePulse_moves (s : State) : Moves s (samplePulse s) := by
  unfold samplePulse
  split
  · next sampling =>
    have started := started_of_samplingConditions sampling
    split
    · exact (Move.startsInterval started).moves
    · split
      · exact ((Move.numbersSample (s.tsu.sequence + 1)).moves.tail (.startsInterval started)).trans (originate_moves _ _)
      · exact .refl
  · split
    · exact .refl
    · exact Move.discardsInterval.moves

theorem samplePoll_moves (s : State) : Moves s (samplePoll s) := by
  unfold samplePoll
  split
  · split
    · next sampling => exact (Move.startsInterval (started_of_samplingConditions sampling)).moves
    · exact .refl
  · split
    · exact .refl
    · exact Move.discardsInterval.moves

theorem sampleReversal_moves (s : State) : Moves s (sampleReversal s) := by
  unfold sampleReversal
  split
  · exact .refl
  · exact Move.discardsInterval.moves

theorem announceReversal_moves (crossCheckFirst : Bool) (s : State) : Moves s (announceReversal crossCheckFirst s) := by
  have ends : Moves s (demandReversal (sampleReversal s)) := (sampleReversal_moves s).tail .endsHold
  unfold announceReversal
  dsimp only
  split
  · exact (ends.tail (.resetsSplit _)).tail .reverses
  · exact (ends.tail .reverses).tail (.resetsSplit _)

theorem tachometerPulse_moves (sense : Direction) (crossCheckFirst : Bool) (s : State) :
    Moves s (tachometerPulse sense crossCheckFirst s) := by
  unfold tachometerPulse
  dsimp only
  split
  · exact ((Move.pulses sense).moves.trans (announceReversal_moves _ _)).trans (samplePulse_moves _)
  · exact (Move.pulses sense).moves.trans (samplePulse_moves _)

theorem pollSensors_moves (s : State) : Moves s (pollSensors s) :=
  (Move.slows.moves.trans (samplePoll_moves _)).tail (.requests _)

theorem endBogieExchange_moves (v : Verdict) (s : State) : Moves s (endBogieExchange v s) :=
  (Move.takesBogie v).moves.tail (.requests _)

theorem endBodyExchange_moves {v : Verdict} (angle : ∀ theta, v = .good theta → within 15000 theta) (s : State) :
    Moves s (endBodyExchange v s) :=
  (Move.takesBody v angle).moves.tail .endsPoll

theorem within_of_judgeBodyReply {r : SensorReply} {theta : Int} (good : judgeBodyReply r = .good theta) :
    within 15000 theta := by
  unfold judgeBodyReply at good
  split at good
  · split at good
    · cases good
    · next inRange =>
      cases good
      simp only [Bool.or_eq_true, decide_eq_true_eq, not_or, not_lt] at inRange
      exact ⟨by simpa using inRange.1, by simpa using inRange.2⟩
  · next notGood => exact absurd good (notGood theta)

theorem receiveBogieReply_moves (r : SensorReply) (s : State) : Moves s (receiveBogieReply r s) := by
  unfold receiveBogieReply
  split
  · exact endBogieExchange_moves _ s
  · exact .refl

theorem receiveBodyReply_moves (r : SensorReply) (s : State) : Moves s (receiveBodyReply r s) := by
  unfold receiveBodyReply
  split
  · exact endBodyExchange_moves (fun _ => within_of_judgeBodyReply) s
  · exact .refl

theorem endWait_moves (s : State) : Moves s (endWait s) := by
  unfold endWait
  split
  · exact endBogieExchange_moves _ s
  · exact endBodyExchange_moves (v := .noReply) (fun _ impossible => nomatch impossible) s
  · exact .refl

/-! ## Chains of the input lines and of CSO -/

theorem expireSupplyDebounce_moves (s : State) : Moves s (expireSupplyDebounce s) := by
  unfold expireSupplyDebounce
  split
  · exact .refl
  · next differs => exact (Move.changesSupply differs).moves

theorem expireInhibitDebounce_moves (s : State) : Moves s (expireInhibitDebounce s) := by
  unfold expireInhibitDebounce
  split
  · exact .refl
  · exact Move.changesInhibit.moves

theorem expireCarStateTimer_moves (s : State) : Moves s (expireCarStateTimer s) := by
  unfold expireCarStateTimer
  split
  · next runs => exact sendCarState_moves (.inr runs)
  · exact .refl

/-! ## Chains of the service line -/

theorem endStart_moves (carStateFirst : Bool) (s : State) : Moves s (endStart carStateFirst s) := by
  unfold endStart
  dsimp only
  refine Move.endsStart.moves.trans ?_
  split
  · exact (sendCarState_moves (.inl rfl)).trans (takeTrigger_moves _)
  · exact (takeTrigger_moves _).trans (sendCarState_moves (.inl (by simp)))

theorem endLoad_moves {o : LoadOutcome} {s : State} (carStateFirst : Bool) (loading : s.svc.startState = .loading)
    (ends : isOutcome s.svc.factorySerial o) : Moves s (endLoad o carStateFirst s) :=
  (Move.handsRecord loading ends).moves.trans (endStart_moves _ _)

theorem completeRead_moves (r : RecordBytes) (carStateFirst : Bool) (s : State) :
    Moves s (completeRead r carStateFirst s) := by
  unfold completeRead
  split
  · next loading => exact endLoad_moves _ loading (.inl ⟨r, rfl⟩)
  · exact .refl

theorem abandonLoad_moves (carStateFirst : Bool) (s : State) : Moves s (abandonLoad carStateFirst s) := by
  unfold abandonLoad
  split
  · next loading => exact endLoad_moves _ loading (.inr ⟨_, rfl⟩)
  · exact .refl

theorem retryRead_moves (s : State) : Moves s (retryRead s) := by
  unfold retryRead
  split
  · exact Move.retries.moves
  · exact .refl

theorem answer_moves (code : Byte) (payload : List Byte) (s : State) : Moves s (answer code payload s) :=
  (Move.answers _).moves

theorem answerMalformed_moves (code : Byte) (s : State) : Moves s (answerMalformed code s) :=
  Move.countsMalformed.moves.trans (answer_moves _ _ _)

theorem whenEmpty_moves {f : State → State} {s : State} (moves : Moves s (f s)) (code : Byte) (payload : List Byte) :
    Moves s (whenEmpty code payload f s) := by
  unfold whenEmpty
  split
  · exact moves
  · exact answerMalformed_moves code s

theorem requestStatus_moves (payload : List Byte) (s : State) : Moves s (requestStatus payload s) :=
  whenEmpty_moves (f := fun s => answerDone 1 (statusData s) s) (answer_moves _ _ s) _ _

theorem requestSlots_moves (payload : List Byte) (s : State) : Moves s (requestSlots payload s) :=
  whenEmpty_moves (f := fun s => answerDone 3 (slotsData s) s) (answer_moves _ _ s) _ _

theorem requestCounters_moves (payload : List Byte) (s : State) : Moves s (requestCounters payload s) :=
  whenEmpty_moves (f := fun s => answerDone 4 (countersData s) s) (answer_moves _ _ s) _ _

theorem requestRoster_moves (payload : List Byte) (s : State) : Moves s (requestRoster payload s) := by
  unfold requestRoster
  split
  · split
    · exact answer_moves _ _ s
    · exact answerMalformed_moves _ s
  · exact answerMalformed_moves _ s

theorem fetchEvent_moves (s : State) : Moves s (fetchEvent s) := by
  unfold fetchEvent
  split
  · exact answer_moves _ _ s
  · exact (Move.fetches _).moves.trans (answer_moves _ _ _)

theorem requestLocalInhibit_moves (payload : List Byte) (s : State) : Moves s (requestLocalInhibit payload s) := by
  unfold requestLocalInhibit
  split
  · split
    · exact (Move.setsLocalInhibit _).moves.trans (answer_moves _ _ _)
    · exact answerMalformed_moves _ s
  · exact answerMalformed_moves _ s

theorem requestOrder_moves (payload : List Byte) (s : State) : Moves s (requestOrder payload s) := by
  unfold requestOrder
  split
  · split
    · exact answerMalformed_moves _ s
    · split
      · exact answerMalformed_moves _ s
      · split
        · exact answer_moves _ _ s
        · exact (sendTiltOrder_moves _ _ s).trans (answer_moves _ _ _)
  · exact answerMalformed_moves _ s

theorem resetFailed_moves (s : State) : Moves s (resetFailed s) := by
  unfold resetFailed
  split
  · exact answer_moves _ _ s
  · split
    · exact answer_moves _ _ s
    · next allowed =>
      split
      · next latched => exact (Move.clearsFailed latched allowed).moves.trans (answer_moves _ _ _)
      · exact answer_moves _ _ s

theorem restart_moves (s : State) : Moves s (restart s) := by
  unfold restart
  split
  · exact answer_moves _ _ s
  · next allowed => exact (Move.restarts allowed).moves.trans (answer_moves _ _ _)

/-! ## Every command -/

/-- The effect of every command but POWER_ON and CONTROL_EXPIRY is a chain of moves. -/
theorem effect_moves (i : Instr) (s : State) (notPowerOn : ∀ x y, i ≠ .powerOn x y) (notControl : ∀ t, i ≠ .controlExpiry t) :
    Moves s (effect i s) := by
  cases i with
  | powerOn x y => exact absurd rfl (notPowerOn x y)
  | tachometerPulse => exact tachometerPulse_moves _ _ s
  | captureCounterWrap => exact Move.wraps.moves
  | pollExpiry => exact pollSensors_moves s
  | bogieFrame => exact receiveBogieReply_moves _ s
  | bodyAngleFrame => exact receiveBodyReply_moves _ s
  | sensorReplyTimeout => exact endWait_moves s
  | lineSignalDetected => exact detectSignal_moves _ s
  | signalLoss => exact loseSignal_moves _ s
  | settleTimeExpiry => exact settleExpires_moves _ s
  | farEndUp => exact farEndUp_moves _ s
  | flagTimeExpiry => exact flagExpires_moves _ s
  | markerTimeExpiry => exact markerExpires_moves _ s
  | frameTruncated => exact truncateFrame_moves _ _ s
  | frameFormatError => exact formatError_moves _ s
  | linkFrameReceived => exact receiveFrame_moves _ _ _ _ _ s
  | transmitComplete => exact endFrame_moves _ s
  | triggerHoldExpiry => exact expireTriggerHold_moves s
  | quietTimerExpiry => exact expireQuietTimer_moves s
  | controlExpiry t => exact absurd rfl (notControl t)
  | supplyOkLineChange => exact (Move.changesRawSupply _).moves
  | supplyOkDebounceExpiry => exact expireSupplyDebounce_moves s
  | inhibitLineChange => exact (Move.changesRawInhibit _).moves
  | inhibitDebounceExpiry => exact expireInhibitDebounce_moves s
  | carStateTimerExpiry => exact expireCarStateTimer_moves s
  | configReadComplete => exact completeRead_moves _ _ s
  | configLoadRetry => exact retryRead_moves s
  | configLoadTimeout => exact abandonLoad_moves _ s
  | requestGapTimeout => exact .refl
  | unknownRequest => exact answerMalformed_moves _ s
  | readStatus => exact requestStatus_moves _ s
  | readRoster => exact requestRoster_moves _ s
  | readSlots => exact requestSlots_moves _ s
  | readCounters => exact requestCounters_moves _ s
  | fetchEvent => exact whenEmpty_moves (f := Machine.fetchEvent) (fetchEvent_moves s) _ _
  | setLocalInhibit => exact requestLocalInhibit_moves _ s
  | sendOrder => exact requestOrder_moves _ s
  | resetFailed => exact whenEmpty_moves (f := Machine.resetFailed) (resetFailed_moves s) _ _
  | restart => exact whenEmpty_moves (f := Machine.restart) (restart_moves s) _ _
  | startPatternFound => exact findPattern_moves _ s

/-- What a chain of moves keeps is what every move keeps. -/
theorem Moves.keeps {sound : State → Prop} (kept : ∀ s s', sound s → Move s s' → sound s') {s s' : State}
    (moves : Moves s s') (holds : sound s) : sound s' := by
  induction moves with
  | refl => exact holds
  | tail _ move ih => exact kept _ _ ih move

/-- A property of states that power-on, time, the control expiry and every move keep, and that says nothing of the queue,
is kept by every step. -/
theorem keptByStep_of_move {sound : State → Prop} (queue : ∀ s q, sound s → sound { s with pending := q })
    (powerOn : ∀ s x y, sound s → sound (State.powerOn s.svc.factorySerial x y s.pending))
    (lapse : ∀ s t, sound s → sound (s.lapse t)) (control : ∀ s, sound s → sound (controlExpiry s))
    (move : ∀ s s', sound s → Move s s' → sound s') : keptByStep sound := by
  refine keptByStep_of_exec queue fun i s s' holds answered => ?_
  obtain ⟨-, rfl⟩ := eq_effect_of_exec answered
  have before := lapse s (lapseOf i) holds
  by_cases isPowerOn : ∃ x y, i = .powerOn x y
  · obtain ⟨x, y, rfl⟩ := isPowerOn
    exact powerOn _ x y before
  · by_cases isControl : ∃ t, i = .controlExpiry t
    · obtain ⟨t, rfl⟩ := isControl
      exact control _ before
    · exact (effect_moves i _ (fun x y h => isPowerOn ⟨x, y, h⟩) fun t h => isControl ⟨t, h⟩).keeps move before

end Sys2Proof.Machine
end

section
/-! SUPPORT. The statements about every command: its outcome, the queue and the serial, and the passing of time. -/

namespace Sys2Proof.Machine

/-! ## The queue and the serial -/

@[simp] theorem clearFetched_frame (k : EventKind) (s : State) :
    (clearFetched k s).now = s.now ∧ (clearFetched k s).odo = s.odo ∧ (clearFetched k s).sns = s.sns ∧
    (clearFetched k s).tsu = s.tsu ∧ (clearFetched k s).portA = s.portA ∧ (clearFetched k s).portB = s.portB ∧
    (clearFetched k s).rcl = s.rcl ∧ (clearFetched k s).src = s.src ∧ (clearFetched k s).pvq = s.pvq ∧
    (clearFetched k s).xck = s.xck ∧ (clearFetched k s).dmd = s.dmd ∧ (clearFetched k s).act = s.act ∧
    (clearFetched k s).cso = s.cso ∧ (clearFetched k s).svc.startState = s.svc.startState ∧
    (clearFetched k s).svc.config = s.svc.config ∧ (clearFetched k s).svc.unconfigured = s.svc.unconfigured ∧
    (clearFetched k s).svc.loadFault = s.svc.loadFault ∧
    (clearFetched k s).svc.factorySerial = s.svc.factorySerial ∧
    (clearFetched k s).svc.malformed = s.svc.malformed ∧ (clearFetched k s).pending = s.pending := by
  unfold clearFetched
  dsimp only
  split <;> simp

/-- No move touches the queue of commands or the serial of the part. -/
theorem Move.serial_and_queue {s s' : State} (move : Move s s') :
    s'.svc.factorySerial = s.svc.factorySerial ∧ s'.pending = s.pending := by
  cases move <;>
    simp [changeRawSupply, changeRawInhibit, demandReversal, restartUnits, beginLoad, restartService, restartControl,
      restartPreview, restartRollCall, restartSensing]

theorem effect_serial_and_queue (i : Instr) (s : State) :
    (effect i s).svc.factorySerial = s.svc.factorySerial ∧ (effect i s).pending = s.pending := by
  by_cases isPowerOn : ∃ x y, i = .powerOn x y
  · obtain ⟨x, y, rfl⟩ := isPowerOn
    exact ⟨rfl, rfl⟩
  · by_cases isControl : ∃ t, i = .controlExpiry t
    · obtain ⟨t, rfl⟩ := isControl
      simp [effect]
    · refine (effect_moves i s (fun x y h => isPowerOn ⟨x, y, h⟩) fun t h => isControl ⟨t, h⟩).keeps
        (sound := fun v => v.svc.factorySerial = s.svc.factorySerial ∧ v.pending = s.pending)
        (fun v v' before move => ?_) ⟨rfl, rfl⟩
      exact ⟨move.serial_and_queue.1.trans before.1, move.serial_and_queue.2.trans before.2⟩

/-- Settles O1, by the two cases of `step`. -/
theorem stepRunsTheFrontCommand : Obligations.StepRunsTheFrontCommand := by
  refine ⟨fun c rest s front => ?_, fun s empty => ?_⟩
  · rw [step, front]
  · rw [step, empty]

/-- Settles O2: a well-formed command answers its effect, which is a chain of moves, POWER_ON or CONTROL_EXPIRY. -/
theorem wellFormedCommandsComplete : Obligations.WellFormedCommandsComplete := by
  refine fun i s => ⟨fun wf => ?_, fun illFormed => exec_of_not_wf illFormed s⟩
  have kept := effect_serial_and_queue i (s.lapse (lapseOf i))
  rw [exec_of_wf wf, completes_next]
  simpa using kept

/-! ## The passing of time -/

theorem min_add_min_add (top n k m : Nat) : min top (min top (n + k) + m) = min top (n + (k + m)) := by omega

theorem growTimer_growTimer (top m n : Nat) (timer : Option Nat) :
    growTimer top n (growTimer top m timer) = growTimer top (m + n) timer := by
  cases timer <;> simp [growTimer, min_add_min_add]

theorem lapsePort_lapsePort (m n : Nat) (heard : Heard) (p : Port) :
    lapsePort n heard (lapsePort m heard p) = lapsePort (m + n) heard p := by
  cases line : p.line with
  | down => simp [lapsePort, line]
  | settling =>
    cases flag : p.farEnd <;> obtain _ | (_ | _) := heard <;> simp [lapsePort, line, flag, min_add_min_add]
  | up => obtain _ | (_ | _) := heard <;> simp [lapsePort, line, min_add_min_add]

theorem lapseOdo_lapseOdo (m n : Nat) (o : Odo) : lapseOdo n (lapseOdo m o) = lapseOdo (m + n) o := by
  unfold lapseOdo
  by_cases void : o.measurement = .void <;> simp [void, min_add_min_add]

theorem lapseWait_lapseWait (m n : Nat) (w : SensorWait) : lapseWait n (lapseWait m w) = lapseWait (m + n) w := by
  cases w <;> simp [lapseWait, min_add_min_add]

theorem lapseDebounce_lapseDebounce (top m n : Nat) (raw level : Bool) (time : Nat) :
    lapseDebounce top n raw level (lapseDebounce top m raw level time) = lapseDebounce top (m + n) raw level time := by
  unfold lapseDebounce
  split <;> simp [min_add_min_add]

theorem lapseSvc_lapseSvc (m n : Nat) (v : Svc) : lapseSvc n (lapseSvc m v) = lapseSvc (m + n) v := by
  cases start : v.startState <;> simp [lapseSvc, start, min_add_min_add]

/-- Two lapses in which each port hears the same are one lapse of their sum. -/
theorem lapse_lapse (m n : Nat) (heardA heardB : Heard) (s : State) :
    (s.lapse ⟨m, heardA, heardB⟩).lapse ⟨n, heardA, heardB⟩ = s.lapse ⟨m + n, heardA, heardB⟩ := by
  by_cases noFirst : m = 0
  · simp [State.lapse, noFirst]
  · by_cases noSecond : n = 0
    · simp [State.lapse, noSecond]
    · simp [State.lapse, noFirst, noSecond, Nat.add_assoc, growTimer_growTimer, lapsePort_lapsePort,
        lapseOdo_lapseOdo, lapseWait_lapseWait, lapseDebounce_lapseDebounce, lapseSvc_lapseSvc]

theorem growTimer_eq_map (top us : Nat) (timer : Option Nat) :
    growTimer top us timer = timer.map fun n => min top (n + us) := by
  cases timer <;> rfl

theorem lapsePort_eq (us : Nat) (heard : Heard) (p : Port) :
    lapsePort us heard p = { p with
      settleTime    := if p.line = .settling then min 10000 (p.settleTime + us) else p.settleTime
      flagTime      :=
        if p.line ≠ .settling then p.flagTime else if p.farEnd then min 10000000 (p.flagTime + us) else 0
      clearFillTime :=
        if p.line ≠ .settling ∨ heard = .bytes then p.clearFillTime
        else if heard = .fill .plain then min 500 (p.clearFillTime + us) else 0
      markerTime    :=
        if p.line ≠ .up then p.markerTime
        else if heard = .fill .marked then min 1000 (p.markerTime + us) else 0 } := by
  cases line : p.line <;> obtain _ | (_ | _) := heard <;> simp [lapsePort, line, ms] <;> rw [← line]

theorem lapseOdo_eq (us : Nat) (o : Odo) :
    lapseOdo us o = { o with captureCounter :=
      if o.measurement = .void then o.captureCounter else min 65535 (o.captureCounter + us) } := by
  unfold lapseOdo
  by_cases void : o.measurement = .void
  · rw [if_pos void, if_pos void]
  · rw [if_neg void, if_neg void]

theorem lapseSvc_eq (us : Nat) (v : Svc) :
    lapseSvc us v = { v with
      loadTime := if v.startState = .loading then min 50000 (v.loadTime + us) else v.loadTime
      tryTime  := if v.startState = .loading then min 50000 (v.tryTime + us) else v.tryTime } := by
  cases start : v.startState
  · simp [lapseSvc, start, ms]
  · simp [lapseSvc, start]
    rw [← start]

/-- Settles O3: each clock has an equation of its own, and each one's two lapses add up. -/
theorem timeMovesTheClocksAlone : Obligations.TimeMovesTheClocksAlone := by
  refine ⟨lapse_lapse, fun t s => ⟨rfl, ?_⟩⟩
  unfold State.lapse
  simp only [growTimer_eq_map, lapsePort_eq, lapseOdo_eq, lapseSvc_eq, lapseDebounce, ms, Nat.reduceMul]
  cases s.sns.wait <;> rfl

/-! ## Power-on and reset -/

theorem counterList_powerOn (serial : BitVec 64) (inhibitActive supplyHigh : Bool) (q : List Instr) :
    ∀ n ∈ counterList (State.powerOn serial inhibitActive supplyHigh q), n = 0 := by
  simp [counterList, badFrameList, portCounterList, slotCountList, State.powerOn, snsPowerOn, portPowerOn, pvqPowerOn,
    xckWithThreshold, svcPowerOn, sensorCountersZero, badFramesZero, portCountersZero, slotCountsZero]

theorem record_eventsClear (k : EventKind) : eventsClear.record k = ⟨false, 0, none⟩ := by cases k <;> rfl

/-- Settles O4: the fields of the state that `State.powerOn` writes out. -/
theorem powerOnGivesPowerOnValues : Obligations.PowerOnGivesPowerOnValues := by
  intro inhibitActive supplyHigh s
  rw [show exec (.powerOn inhibitActive supplyHigh) s =
    .next (State.powerOn s.svc.factorySerial inhibitActive supplyHigh s.pending) from rfl, completes_next]
  refine ⟨rfl, rfl, rfl, rfl, rfl, rfl, counterList_powerOn _ _ _ _, rfl, ?_, rfl, rfl, rfl, rfl, rfl, rfl, rfl, rfl,
    rfl, rfl, rfl, rfl, rfl, rfl, rfl, rfl, rfl, fun k _ => record_eventsClear k, rfl, rfl, rfl, rfl, rfl, rfl, rfl,
    rfl, rfl⟩
  intro e
  cases e <;> exact ⟨rfl, rfl, rfl, rfl, rfl, rfl, rfl, rfl, rfl, rfl⟩

end Sys2Proof.Machine
end

section
/-! SUPPORT. The invariant of ODO, SNS and TSU: the ranges of their state tables, move by move. -/

namespace Sys2Proof.Machine

/-! ## ODO -/

theorem pulseLength_of_ranges {c : ConfigRecord} (wheel : 700 ≤ c.wheelDiameter ∧ c.wheelDiameter ≤ 1000)
    (pulses : 50 ≤ c.pulsesPerRev ∧ c.pulsesPerRev ≤ 250) :
    9008 ≤ recordPulseLength c ∧ recordPulseLength c ≤ 64340 := by
  have positive : 0 < 100000000 * c.pulsesPerRev := by omega
  have low : 9007 ≤ 314159265 * c.wheelDiameter * 1024 / (100000000 * c.pulsesPerRev) :=
    (Nat.le_div_iff_mul_le positive).2 (by omega)
  have high : 314159265 * c.wheelDiameter * 1024 / (100000000 * c.pulsesPerRev) < 64340 :=
    (Nat.div_lt_iff_lt_mul positive).2 (by omega)
  have whole := Nat.div_add_mod (314159265 * c.wheelDiameter * 1024) (100000000 * c.pulsesPerRev)
  unfold recordPulseLength roundHalfUp
  split
  · omega
  · next below =>
    refine ⟨?_, by omega⟩
    by_contra short
    have quotient : 314159265 * c.wheelDiameter * 1024 / (100000000 * c.pulsesPerRev) = 9007 := by omega
    rw [quotient] at whole
    omega

theorem outcome_ranges {serial : BitVec 64} {o : LoadOutcome} (ends : isOutcome serial o) :
    (700 ≤ o.config.wheelDiameter ∧ o.config.wheelDiameter ≤ 1000) ∧
      50 ≤ o.config.pulsesPerRev ∧ o.config.pulsesPerRev ≤ 250 := by
  obtain ⟨r, rfl⟩ | ⟨fault, rfl⟩ := ends
  · unfold readOutcome
    split
    · simp [failedLoad, defaultRecord]
    · simp only [clampRecord, clampNat]; omega
  · simp [failedLoad, defaultRecord]

/-- The range of an odometry unit, as `odometrySound` says it of the state. -/
def OdoSound (o : Odo) : Prop :=
  (9008 ≤ o.pulseLength ∧ o.pulseLength ≤ 64340) ∧ o.fraction < 1024 ∧ o.captureCounter ≤ 65535 ∧
    o.overflowCount ≤ 7 ∧ measurementSound o

theorem OdoSound.lapse {o : Odo} (us : Nat) (sound : OdoSound o) : OdoSound (lapseOdo us o) := by
  obtain ⟨length, fraction, capture, overflow, measured⟩ := sound
  unfold lapseOdo
  split
  · exact ⟨length, fraction, capture, overflow, measured⟩
  · next notVoid =>
    refine ⟨length, fraction, Nat.min_le_left _ _, overflow, ?_⟩
    unfold measurementSound at *
    cases kind : o.measurement <;> simp_all

theorem OdoSound.takePulse {o : Odo} (sense : Direction) (sound : OdoSound o) : OdoSound (takePulse sense o) := by
  obtain ⟨length, -, -, -, -⟩ := sound
  unfold Machine.takePulse measurePulse
  split
  · exact ⟨length, Nat.mod_lt _ (by decide), Nat.zero_le _, Nat.zero_le _, rfl⟩
  · refine ⟨length, Nat.mod_lt _ (by decide), Nat.zero_le _, Nat.zero_le _, ?_⟩
    simp only [endPeriod, measurementSound, measuredPeriod, pulseSpeed, clampNat]
    omega

theorem OdoSound.void {o : Odo} (sound : OdoSound o) : OdoSound (voidMeasurement o) :=
  ⟨sound.1, sound.2.1, Nat.zero_le _, Nat.zero_le _, rfl, rfl, rfl⟩

theorem OdoSound.takeWrap {o : Odo} (sound : OdoSound o) : OdoSound (takeWrap o) := by
  unfold Machine.takeWrap
  split
  · exact sound
  · split
    · exact sound.void
    · next notVoid few =>
      obtain ⟨length, fraction, -, -, measured⟩ := sound
      refine ⟨length, fraction, Nat.zero_le _, by dsimp only; omega, ?_⟩
      unfold measurementSound at *
      cases kind : o.measurement <;> simp_all

theorem OdoSound.evaluateSpeed {o : Odo} (sound : OdoSound o) : OdoSound (evaluateSpeed o) := by
  obtain ⟨length, fraction, capture, overflow, measured⟩ := sound
  unfold Machine.evaluateSpeed
  split
  · next period v timed =>
    refine ⟨length, fraction, capture, overflow, ?_⟩
    simp only [measurementSound, timed] at measured ⊢
    split <;> omega
  · exact ⟨length, fraction, capture, overflow, measured⟩

theorem OdoSound.takePulseLength {o : Odo} {n : Nat} (range : 9008 ≤ n ∧ n ≤ 64340) (sound : OdoSound o) :
    OdoSound (takePulseLength n o) := by
  unfold Machine.takePulseLength
  split
  · exact sound
  · exact ⟨range, sound.2.1, Nat.zero_le _, Nat.zero_le _, rfl, rfl, rfl⟩

/-- How one move can leave ODO. -/
theorem Move.odo {s s' : State} (move : Move s s') :
    s'.odo = s.odo ∨ (∃ sense, s'.odo = takePulse sense s.odo) ∨ s'.odo = takeWrap s.odo ∨
      s'.odo = evaluateSpeed s.odo ∨ s'.odo = voidMeasurement s.odo ∨
      ∃ o, isOutcome s.svc.factorySerial o ∧ s'.odo = takePulseLength (recordPulseLength o.config) s.odo := by
  cases move with
  | pulses sense => exact .inr (.inl ⟨sense, rfl⟩)
  | wraps => exact .inr (.inr (.inl rfl))
  | slows => exact .inr (.inr (.inr (.inl rfl)))
  | restarts => exact .inr (.inr (.inr (.inr (.inl rfl))))
  | handsRecord _ ends => exact .inr (.inr (.inr (.inr (.inr ⟨_, ends, by simp [handRecord]⟩))))
  | _ => exact .inl (by simp [changeRawSupply, changeRawInhibit, demandReversal])

theorem Move.keeps_odoSound {s s' : State} (sound : OdoSound s.odo) (move : Move s s') : OdoSound s'.odo := by
  obtain same | ⟨sense, pulse⟩ | wrap | slow | void | ⟨o, ends, length⟩ := move.odo
  · exact same ▸ sound
  · exact pulse ▸ sound.takePulse sense
  · exact wrap ▸ sound.takeWrap
  · exact slow ▸ sound.evaluateSpeed
  · exact void ▸ sound.void
  · exact length ▸ sound.takePulseLength (pulseLength_of_ranges (outcome_ranges ends).1 (outcome_ranges ends).2)

theorem lapse_odo (t : Lapse) (s : State) : (s.lapse t).odo = s.odo ∨ (s.lapse t).odo = lapseOdo t.us s.odo := by
  unfold State.lapse
  split
  · exact .inl rfl
  · exact .inr rfl

theorem controlExpiry_odo (s : State) : (controlExpiry s).odo = evaluateSpeed s.odo := by
  unfold controlExpiry
  dsimp only
  split <;> simp

/-! ## SNS and TSU -/

theorem healthSound_after {good : Bool} {h : SensorHealth} (sound : healthSound h) :
    healthSound (healthAfter good h) := by
  obtain ⟨fault, bad, goods⟩ := h
  cases fault <;> cases good <;> simp only [healthAfter] <;> (try split) <;> simp_all [healthSound]

/-- The range of a sensor line unit, as `sensingSound` says it of the state. -/
def SnsSound (n : Sns) : Prop :=
  within 6000 n.lastBogie ∧ within 15000 n.lastBody ∧ healthSound n.bogieHealth ∧ healthSound n.bodyHealth ∧
    n.window.length ≤ 20 ∧ ∀ v ∈ n.window, within 6000 v

/-- The range of a track sampling unit, as `sensingSound` says it of the state. -/
def TsuSound (start : StartState) (u : Tsu) : Prop :=
  u.intervalCount ≤ 255 ∧ within (6000 * u.intervalCount) u.intervalSum ∧ (start = .loading → u.sampling = .idle)

theorem sensingSound_iff (s : State) : sensingSound s ↔ SnsSound s.sns ∧ TsuSound s.svc.startState s.tsu := by
  simp only [SnsSound, TsuSound, and_assoc]

theorem within_limit (bound : Nat) (n : Int) : within bound (limit bound n) := by
  simp only [within, limit, clampInt]; omega

theorem joinWindow_sound {v : Int} {w : List Int} (value : within 6000 v) (short : w.length ≤ 20)
    (values : ∀ x ∈ w, within 6000 x) : (joinWindow v w).length ≤ 20 ∧ ∀ x ∈ joinWindow v w, within 6000 x := by
  have joined : ∀ l : List Int, (∀ x ∈ l, within 6000 x) → ∀ x ∈ l ++ [v], within 6000 x := by
    intro l all x mem
    obtain inList | isLast := List.mem_append.1 mem
    · exact all x inList
    · exact List.mem_singleton.1 isLast ▸ value
  unfold joinWindow
  split
  · exact ⟨by simp; omega, joined _ fun x mem => values x (List.mem_of_mem_tail mem)⟩
  · exact ⟨by simp; omega, joined _ values⟩

/-- A bogie frame leaves SNS with the judged fault state, with the window empty where the fault sets. -/
theorem countBogieFrame_sns (good : Bool) (s : State) :
    (countBogieFrame good s).sns = { s.sns with bogieHealth := healthAfter good s.sns.bogieHealth } ∨
      (countBogieFrame good s).sns =
        { s.sns with bogieHealth := healthAfter good s.sns.bogieHealth, window := [] } := by
  unfold countBogieFrame
  dsimp only
  split
  · exact .inr rfl
  · exact .inl rfl
  · exact .inl rfl

theorem countBodyFrame_sns (good : Bool) (s : State) :
    (countBodyFrame good s).sns = { s.sns with bodyHealth := healthAfter good s.sns.bodyHealth } := by
  unfold countBodyFrame
  dsimp only
  split
  · simp
  · rfl
  · rfl

theorem SnsSound.countBogieFrame {s : State} (good : Bool) (sound : SnsSound s.sns) :
    SnsSound (countBogieFrame good s).sns := by
  obtain ⟨bogie, body, bogieHealth, bodyHealth, short, values⟩ := sound
  obtain h | h := countBogieFrame_sns good s <;> rw [h]
  · exact ⟨bogie, body, healthSound_after bogieHealth, bodyHealth, short, values⟩
  · exact ⟨bogie, body, healthSound_after bogieHealth, bodyHealth, Nat.zero_le _, fun _ mem => nomatch mem⟩

theorem SnsSound.takeBogieFrame {s : State} (v : Verdict) (sound : SnsSound s.sns) :
    SnsSound (takeBogieFrame v s).sns := by
  unfold Machine.takeBogieFrame
  split
  · next raw =>
    obtain ⟨-, body, bogieHealth, bodyHealth, short, values⟩ := sound
    have joined := joinWindow_sound (within_limit 6000 raw) short values
    exact SnsSound.countBogieFrame (s := useBogieValue raw s) true
      ⟨within_limit 6000 raw, body, bogieHealth, bodyHealth, joined.1, joined.2⟩
  · exact SnsSound.countBogieFrame (s := { s with sns.counters.bogie := countBad _ s.sns.counters.bogie }) false sound

theorem SnsSound.takeBodyFrame {s : State} {v : Verdict} (angle : ∀ theta, v = .good theta → within 15000 theta)
    (sound : SnsSound s.sns) : SnsSound (takeBodyFrame v s).sns := by
  obtain ⟨bogie, body, bogieHealth, bodyHealth, window⟩ := sound
  unfold Machine.takeBodyFrame
  split <;> rw [countBodyFrame_sns]
  · exact ⟨bogie, angle _ rfl, bogieHealth, healthSound_after bodyHealth, window⟩
  · exact ⟨bogie, body, bogieHealth, healthSound_after bodyHealth, window⟩
  · exact ⟨bogie, body, bogieHealth, healthSound_after bodyHealth, window⟩

theorem countBogieFrame_tsu (good : Bool) (s : State) : (countBogieFrame good s).tsu = s.tsu := by simp

/-- A good bogie value within its clamp joins the running interval, and nothing else does. -/
theorem takeBogieFrame_tsu (v : Verdict) (s : State) :
    (takeBogieFrame v s).tsu = s.tsu ∨ ∃ raw, (takeBogieFrame v s).tsu = joinInterval (limit 6000 raw) s.tsu := by
  unfold takeBogieFrame
  split
  · exact .inr ⟨_, countBogieFrame_tsu _ _⟩
  · exact .inl (countBogieFrame_tsu _ _)

theorem TsuSound.joinInterval {start : StartState} {u : Tsu} {v : Int} (value : within 6000 v)
    (sound : TsuSound start u) : TsuSound start (joinInterval v u) := by
  obtain ⟨count, sum, idle⟩ := sound
  unfold Machine.joinInterval
  split
  · next joins =>
    simp only [Bool.and_eq_true, decide_eq_true_eq] at joins
    refine ⟨by dsimp only; omega, ?_, idle⟩
    simp only [within] at *
    omega
  · exact ⟨count, sum, idle⟩

theorem restartUnits_sns (s : State) : (restartUnits s).sns =
    { s.sns with bogieHealth := healthClear, bodyHealth := healthClear, window := [], counters := sensorCountersZero } :=
  rfl

theorem restartUnits_tsu (s : State) : (restartUnits s).tsu =
    { s.tsu with sampling := .idle, intervalSum := 0, intervalCount := 0, sequence := 0 } := rfl

theorem healthSound_healthClear : healthSound healthClear := by decide

theorem Move.keeps_snsSound {s s' : State} (sound : SnsSound s.sns) (move : Move s s') : SnsSound s'.sns := by
  cases move with
  | takesBogie v => exact sound.takeBogieFrame v
  | takesBody v angle => exact sound.takeBodyFrame angle
  | restarts =>
    rw [restartUnits_sns]
    exact ⟨sound.1, sound.2.1, healthSound_healthClear, healthSound_healthClear, Nat.zero_le _, fun _ mem => nomatch mem⟩
  | requests => exact sound
  | endsPoll => exact sound
  | _ => simpa [changeRawSupply, changeRawInhibit, demandReversal] using sound

theorem Move.keeps_tsuSound {s s' : State} (sound : TsuSound s.svc.startState s.tsu) (move : Move s s') :
    TsuSound s'.svc.startState s'.tsu := by
  cases move with
  | startsInterval started =>
    exact ⟨Nat.zero_le _, by simp [startInterval, within], fun loading => nomatch started.symm.trans loading⟩
  | discardsInterval => exact ⟨Nat.zero_le _, by simp [discardInterval, within], fun _ => rfl⟩
  | numbersSample => exact sound
  | takesBogie v =>
    rw [show (takeBogieFrame v s).svc.startState = s.svc.startState by simp]
    obtain same | ⟨raw, joined⟩ := takeBogieFrame_tsu v s
    · exact same ▸ sound
    · exact joined ▸ sound.joinInterval (within_limit 6000 raw)
  | endsStart => exact ⟨sound.1, sound.2.1, fun loading => nomatch loading⟩
  | restarts =>
    rw [restartUnits_tsu]
    exact ⟨Nat.zero_le _, by simp [within], fun _ => rfl⟩
  | _ => simpa [changeRawSupply, changeRawInhibit, demandReversal] using sound

/-! ## The step -/

theorem odometrySound_powerOn (serial : BitVec 64) (x y : Bool) (q : List Instr) :
    odometrySound (State.powerOn serial x y q) := by
  simp [odometrySound, measurementSound, State.powerOn, odoPowerOn]

theorem sensingSound_powerOn (serial : BitVec 64) (x y : Bool) (q : List Instr) :
    sensingSound (State.powerOn serial x y q) := by
  simp [sensingSound, healthSound, within, State.powerOn, snsPowerOn, tsuPowerOn, healthClear]

/-- Settles O6: ODO and SNS with TSU, each through the moves that touch it. -/
theorem stepKeepsMeasurementsSound : Obligations.StepKeepsMeasurementsSound := by
  refine keptByStep_of_move (fun s q sound => sound)
    (fun s x y _ => ⟨odometrySound_powerOn _ x y _, sensingSound_powerOn _ x y _⟩) ?_ ?_ ?_
  · rintro s t ⟨odo, sensing⟩
    refine ⟨?_, ?_⟩
    · show OdoSound (s.lapse t).odo
      obtain same | grown := lapse_odo t s
      · exact same ▸ odo
      · exact grown ▸ OdoSound.lapse t.us odo
    · rw [sensingSound_iff] at sensing ⊢
      unfold State.lapse
      split
      · exact sensing
      · exact ⟨sensing.1, by simpa using sensing.2⟩
  · rintro s ⟨odo, sensing⟩
    refine ⟨?_, by simpa [sensingSound] using sensing⟩
    show OdoSound (controlExpiry s).odo
    exact controlExpiry_odo s ▸ OdoSound.evaluateSpeed odo
  · rintro s s' ⟨odo, sensing⟩ move
    rw [sensingSound_iff] at sensing ⊢
    exact ⟨move.keeps_odoSound odo, move.keeps_snsSound sensing.1, move.keeps_tsuSound sensing.2⟩

end Sys2Proof.Machine
end

section
/-! SUPPORT. The invariant of LNK: what joins a port, what its transmitter takes, and what its line states do keep both
ports sound. -/

namespace Sys2Proof.Machine

/-! ## The transmitter's choice (R44, R46) -/

theorem dropStale_suffix (now : Nat) (q : List Queued) : (dropStale now q).2 <:+ q := by
  induction q with
  | nil => exact List.suffix_rfl
  | cons x rest ih =>
    unfold dropStale
    split
    · exact ih.trans (List.suffix_cons x rest)
    · exact List.suffix_rfl

/-- A choice from the notice queue takes its head. -/
theorem chooseNext_of_notice {p : Port} {q : Queued} {rest : List Queued} (now : Nat) (waits : p.notices = q :: rest) :
    chooseNext now p = { p with notices := rest, sending := some (startedFrame now q) } := by
  unfold chooseNext; rw [waits]

/-- With no notice, the choice drops the stale stream frames and takes the next one, if there is one. -/
theorem chooseNext_of_no_notice {p : Port} (now : Nat) (none : p.notices = []) :
    chooseNext now p = { p with
      streams             := (dropStale now p.streams).2.tail
      sending             := (dropStale now p.streams).2.head?.map (startedFrame now)
      counters.staleDrops := addSat16 p.counters.staleDrops (dropStale now p.streams).1 } := by
  unfold chooseNext; rw [none]

/-! ## A port stays sound -/

/-- What is sound of the queues of a port whatever its transmitter does. -/
def QueuesSound (p : Port) : Prop :=
  p.notices.length ≤ 8 ∧ p.streams.length ≤ 8 ∧
    (∀ q ∈ p.notices, queuedAs true q) ∧ ∀ q ∈ p.streams, queuedAs false q

theorem portSound_of_up {p : Port} (queues : QueuesSound p) (idle : p.sending = none → p.notices = [] ∧ p.streams = [])
    (up : p.line = .up) (farEnd : p.farEnd = false) : portSound p :=
  ⟨queues.1, queues.2.1, queues.2.2.1, queues.2.2.2, idle, fun notUp => absurd up notUp, fun _ => farEnd⟩

theorem portSound_of_empty {p : Port} (notices : p.notices = []) (streams : p.streams = []) (sending : p.sending = none)
    (farEnd : p.line = .up → p.farEnd = false) : portSound p := by
  simp_all [portSound]

/-- A port that is not UP has nothing to send. -/
theorem portSound.empty_of_not_up {p : Port} (sound : portSound p) (notUp : p.line ≠ .up) :
    p.notices = [] ∧ p.streams = [] ∧ p.sending = none := by
  obtain ⟨-, -, -, -, idle, silent, -⟩ := sound
  have sending := silent notUp
  exact ⟨(idle sending).1, (idle sending).2, sending⟩

/-- The transmitter's choice keeps the queues sound, and is IDLE only with nothing left. -/
theorem chooseNext_sound (now : Nat) {p : Port} (queues : QueuesSound p) :
    QueuesSound (chooseNext now p) ∧
      ((chooseNext now p).sending = none → (chooseNext now p).notices = [] ∧ (chooseNext now p).streams = []) ∧
      (chooseNext now p).line = p.line ∧ (chooseNext now p).farEnd = p.farEnd := by
  obtain ⟨notices, streams, noticeClass, streamClass⟩ := queues
  cases waits : p.notices with
  | cons q rest =>
    rw [chooseNext_of_notice now waits]
    rw [waits] at notices noticeClass
    exact ⟨⟨Nat.le_of_succ_le notices, streams, fun x mem => noticeClass x (List.mem_cons_of_mem q mem), streamClass⟩,
      by simp, rfl, rfl⟩
  | nil =>
    have suffix := dropStale_suffix now p.streams
    rw [chooseNext_of_no_notice now waits]
    refine ⟨⟨by simp [waits], ?_, by simp [waits], ?_⟩, ?_, rfl, rfl⟩
    · have short := suffix.length_le
      simp only [List.length_tail]
      omega
    · exact fun x mem => streamClass x (suffix.subset (List.mem_of_mem_tail mem))
    · intro idle
      have nothing : (dropStale now p.streams).2 = [] := by simpa using idle
      exact ⟨waits, by simp [nothing]⟩

theorem joinTail_sound (now : Nat) {f : LinkFrame} {p : Port} (hop : f.hop.toNat ≤ 15)
    (room : queueFull f.body p = false) (queues : QueuesSound p) : QueuesSound (joinTail now f p) := by
  obtain ⟨notices, streams, noticeClass, streamClass⟩ := queues
  unfold queueFull at room
  unfold joinTail
  split
  · next notice =>
    rw [if_pos notice, decide_eq_false_iff_not] at room
    refine ⟨by simp; omega, streams, fun q mem => ?_, streamClass⟩
    obtain old | new := List.mem_append.1 mem
    · exact noticeClass q old
    · exact List.mem_singleton.1 new ▸ ⟨notice, hop⟩
  · next stream =>
    rw [if_neg stream, decide_eq_false_iff_not] at room
    refine ⟨notices, by simp; omega, noticeClass, fun q mem => ?_⟩
    obtain old | new := List.mem_append.1 mem
    · exact streamClass q old
    · exact List.mem_singleton.1 new ▸ ⟨by simpa using stream, hop⟩

theorem joinTail_frame (now : Nat) (f : LinkFrame) (p : Port) :
    (joinTail now f p).line = p.line ∧ (joinTail now f p).farEnd = p.farEnd ∧
    (joinTail now f p).sending = p.sending := by
  unfold joinTail; split <;> exact ⟨rfl, rfl, rfl⟩

/-- A frame that joins an UP port leaves it sound. -/
theorem portSound.join (now : Nat) {f : LinkFrame} {p : Port} (hop : f.hop.toNat ≤ 15) (up : p.line = .up)
    (room : queueFull f.body p = false) (sound : portSound p) : portSound (chooseIfIdle now (joinTail now f p)) := by
  obtain ⟨notices, streams, noticeClass, streamClass, -, -, farEnd⟩ := sound
  obtain ⟨line, flag, sending⟩ := joinTail_frame now f p
  have queues := joinTail_sound now hop room ⟨notices, streams, noticeClass, streamClass⟩
  unfold chooseIfIdle
  split
  · obtain ⟨kept, idle, lineKept, flagKept⟩ := chooseNext_sound now queues
    exact portSound_of_up kept idle (lineKept.trans (line.trans up)) (flagKept.trans (flag.trans (farEnd up)))
  · next busy =>
    exact portSound_of_up queues (fun isIdle => absurd (by simp [isIdle]) busy) (line.trans up)
      (flag.trans (farEnd up))

theorem countDrop_frame (body : FrameBody) (p : Port) :
    (countDrop body p).line = p.line ∧ (countDrop body p).farEnd = p.farEnd ∧
    (countDrop body p).notices = p.notices ∧ (countDrop body p).streams = p.streams ∧
    (countDrop body p).sending = p.sending := by
  unfold countDrop; split <;> exact ⟨rfl, rfl, rfl, rfl, rfl⟩

theorem portSound_congr {p q : Port} (line : q.line = p.line) (farEnd : q.farEnd = p.farEnd)
    (notices : q.notices = p.notices) (streams : q.streams = p.streams) (sending : q.sending = p.sending)
    (sound : portSound p) : portSound q := by
  simpa only [portSound, line, farEnd, notices, streams, sending] using sound

theorem PortMove.keeps_portSound {now : Nat} {p q : Port} (sound : portSound p) (move : PortMove now p q) :
    portSound q := by
  cases move with
  | keeps line farEnd notices streams sending => exact portSound_congr line farEnd notices streams sending sound
  | settles down =>
    obtain ⟨notices, streams, sending⟩ := sound.empty_of_not_up (by simp [down])
    exact portSound_of_empty notices streams sending fun up => nomatch up
  | clearsFlag =>
    obtain ⟨notices, streams, noticeClass, streamClass, idle, silent, -⟩ := sound
    exact ⟨notices, streams, noticeClass, streamClass, idle, silent, fun _ => rfl⟩
  | goesUp => exact portSound_of_empty rfl rfl rfl fun _ => rfl
  | losesSettling settling =>
    obtain ⟨notices, streams, sending⟩ := sound.empty_of_not_up (by simp [settling])
    exact portSound_of_empty notices streams sending fun up => nomatch up
  | losesUp => exact portSound_of_empty rfl rfl rfl fun up => nomatch up
  | hearsMarker => exact portSound_of_empty rfl rfl rfl fun up => nomatch up
  | chooses busy =>
    obtain ⟨notices, streams, noticeClass, streamClass, idle, silent, farEnd⟩ := sound
    have up : p.line = .up := by
      by_contra notUp
      simp [silent notUp] at busy
    obtain ⟨kept, idleAfter, lineKept, flagKept⟩ := chooseNext_sound now ⟨notices, streams, noticeClass, streamClass⟩
    exact portSound_of_up kept idleAfter (lineKept.trans up) (flagKept.trans (farEnd up))

/-! ## Both ports -/

theorem linkSound_iff (s : State) : linkSound s ↔ ∀ e, portSound (s.port e) :=
  ⟨fun sound e => by cases e <;> [exact sound.1; exact sound.2], fun sound => ⟨sound .a, sound .b⟩⟩

theorem linkSound_setPort {s : State} {e : End} {p : Port} (sound : linkSound s) (new : portSound p) :
    linkSound (s.setPort e p) := by
  cases e
  · exact ⟨new, sound.2⟩
  · exact ⟨sound.1, new⟩

theorem portSound.lapse (us : Nat) (heard : Heard) {p : Port} (sound : portSound p) :
    portSound (lapsePort us heard p) :=
  portSound_congr (by simp) (by simp) (by simp) (by simp) (by simp) sound

theorem offerTo_linkSound {s : State} {e : End} {f : LinkFrame} (hop : f.hop.toNat ≤ 15) (sound : linkSound s) :
    linkSound (offerTo e f s) := by
  have atPort := (linkSound_iff s).1 sound e
  obtain ⟨-, same⟩ | ⟨-, -, dropped⟩ | ⟨up, room, joined⟩ := offerTo_cases e f s
  · rwa [same]
  · obtain ⟨line, farEnd, notices, streams, sending⟩ := countDrop_frame f.body (s.port e)
    rw [dropped]
    exact linkSound_setPort sound (portSound_congr line farEnd notices streams sending atPort)
  · rw [joined]
    exact linkSound_setPort sound (atPort.join s.now hop up room)

theorem Move.keeps_linkSound {s s' : State} (sound : linkSound s) (move : Move s s') : linkSound s' := by
  cases move with
  | movesPort e move => exact linkSound_setPort sound (move.keeps_portSound ((linkSound_iff s).1 sound e))
  | offers e f hop => exact offerTo_linkSound hop sound
  | notesEpoch epoch =>
    unfold noteEpoch
    split <;> exact sound
  | entersEpoch epoch takes => simpa [linkSound] using sound
  | restarts => exact sound
  | _ => simpa [linkSound, changeRawSupply, changeRawInhibit, demandReversal] using sound

theorem linkSound_powerOn (serial : BitVec 64) (x y : Bool) (q : List Instr) : linkSound (State.powerOn serial x y q) :=
  ⟨portSound_of_empty rfl rfl rfl fun _ => rfl, portSound_of_empty rfl rfl rfl fun _ => rfl⟩

/-- Settles O7: a frame that joins, the moves of one port, and the lapse keep a port sound. -/
theorem stepKeepsLinkSound : Obligations.StepKeepsLinkSound := by
  refine keptByStep_of_move (fun s q sound => sound) (fun s x y _ => linkSound_powerOn _ x y _) ?_ ?_
    fun s s' sound move => move.keeps_linkSound sound
  · intro s t sound
    unfold State.lapse
    split
    · exact sound
    · exact ⟨sound.1.lapse t.us t.heardA, sound.2.lapse t.us t.heardB⟩
  · intro s sound
    simpa [linkSound] using sound

end Sys2Proof.Machine
end

section
/-! SUPPORT. The invariant of RCL: what enters the rosters keeps them distinct, within capacity, and with self once. -/

namespace Sys2Proof.Machine

/-! ## Facts of a roster that an order or a place leaves -/

theorem insertByOrdinal_perm (x : RosterEntry) (l : List RosterEntry) : (insertByOrdinal x l).Perm (x :: l) := by
  induction l with
  | nil => exact .refl _
  | cons y r ih =>
    unfold insertByOrdinal
    split
    · exact .refl _
    · exact (ih.cons y).trans (.swap x y r)

theorem sortByOrdinal_perm (l : List RosterEntry) : (sortByOrdinal l).Perm l := by
  induction l with
  | nil => exact .refl _
  | cons x r ih => exact (insertByOrdinal_perm x _).trans (ih.cons x)

/-- A formation reorders what neither the place nor the position of an entry changes. -/
theorem formedRoster_map_perm {β : Type} {g : RosterEntry → β} (place : ∀ end0 n x, g (withPlace end0 n x) = g x)
    (position : ∀ l own x, g (withPosition l own x) = g x) (own : Identity) (roster : List RosterEntry) :
    ((formedRoster own roster).map g).Perm (roster.map g) := by
  unfold formedRoster
  dsimp only
  rw [List.map_map]
  refine (((sortByOrdinal_perm _).map _).trans ?_)
  rw [List.map_map]
  exact .of_eq (List.map_congr_left fun x _ => (position _ _ _).trans (place _ _ _))

/-- How many entries of a list are self's. -/
def selfCount (l : List RosterEntry) : Nat := (l.filter fun x => x.side = .self).length

theorem selfCount_eq (l : List RosterEntry) : selfCount l = (l.map RosterEntry.side).countP fun x => x = .self := by
  rw [selfCount, ← List.countP_eq_length_filter, List.countP_map]
  rfl

/-! ## The rosters -/

/-- The rosters and the quiet timer of RCL, as `rosterSound` says it of the state. -/
structure RclSound (r : Rcl) : Prop where
  short : r.roster.length ≤ 16
  distinct : (r.roster.map RosterEntry.identity).Nodup
  distinctBefore : (r.previousRoster.map RosterEntry.identity).Nodup
  shortBefore : r.previousRoster.length ≤ 15
  othersBefore : ∀ x ∈ r.previousRoster, x.side ≠ .self
  noneEmpty : r.trainState = .none → r.roster = []
  selfOnce : r.trainState ≠ .none → selfCount r.roster = 1
  quiet : r.trainState ≠ .forming → r.previousRoster = [] ∧ r.quietTimer = none
  counts : ∀ x ∈ r.roster, x.invalidCount ≤ 3
  countsBefore : ∀ x ∈ r.previousRoster, x.invalidCount ≤ 3

theorem rosterSound_iff (s : State) : rosterSound s ↔ RclSound s.rcl := by
  constructor
  · rintro ⟨short, distinct, distinctBefore, shortBefore, othersBefore, noneEmpty, selfOnce, quiet, counts, countsBefore⟩
    exact ⟨short, distinct, distinctBefore, shortBefore, othersBefore, noneEmpty, selfOnce, quiet, counts, countsBefore⟩
  · rintro ⟨short, distinct, distinctBefore, shortBefore, othersBefore, noneEmpty, selfOnce, quiet, counts, countsBefore⟩
    exact ⟨short, distinct, distinctBefore, shortBefore, othersBefore, noneEmpty, selfOnce, quiet, counts, countsBefore⟩

/-- RCL is sound whatever its epochs, flags, refused count and triggers are. -/
theorem RclSound.congr {r q : Rcl} (sound : RclSound r) (roster : q.roster = r.roster)
    (previousRoster : q.previousRoster = r.previousRoster) (trainState : q.trainState = r.trainState)
    (quiet : r.quietTimer = none → q.quietTimer = none) : RclSound q := by
  obtain ⟨short, distinct, distinctBefore, shortBefore, othersBefore, noneEmpty, selfOnce, still, counts,
    countsBefore⟩ := sound
  rw [← roster] at short distinct noneEmpty selfOnce counts
  rw [← previousRoster] at distinctBefore shortBefore othersBefore countsBefore still
  rw [← trainState] at noneEmpty selfOnce still
  exact ⟨short, distinct, distinctBefore, shortBefore, othersBefore, noneEmpty, selfOnce,
    fun other => ⟨(still other).1, quiet (still other).2⟩, counts, countsBefore⟩

/-! ### Entering an epoch (R55) -/

theorem length_filter_not_self (l : List RosterEntry) :
    (l.filter fun x => x.side ≠ .self).length + selfCount l = l.length := by
  rw [selfCount, List.length_eq_length_filter_add (l := l) (fun x => x.side = .self), Nat.add_comm]
  simp

/-- The roster set aside holds the entries of the other stations. -/
theorem RclSound.setAside {r : Rcl} (sound : RclSound r) :
    ((setAside r).map RosterEntry.identity).Nodup ∧ (setAside r).length ≤ 15 ∧ (∀ x ∈ setAside r, x.side ≠ .self) ∧
      ∀ x ∈ setAside r, x.invalidCount ≤ 3 := by
  have others (train : r.trainState ≠ .none) :
      ((r.roster.filter fun x => x.side ≠ .self).map RosterEntry.identity).Nodup ∧
      (r.roster.filter fun x => x.side ≠ .self).length ≤ 15 ∧
      (∀ x ∈ r.roster.filter fun x => x.side ≠ .self, x.side ≠ .self) ∧
      ∀ x ∈ r.roster.filter fun x => x.side ≠ .self, x.invalidCount ≤ 3 := by
    have parted := length_filter_not_self r.roster
    have once := sound.selfOnce train
    have short := sound.short
    refine ⟨sound.distinct.sublist (List.filter_sublist.map _), by omega,
      fun x mem => by simpa using (List.mem_filter.1 mem).2, fun x mem => sound.counts x (List.mem_filter.1 mem).1⟩
  unfold Machine.setAside
  cases train : r.trainState with
  | none => simp
  | forming => exact ⟨sound.distinctBefore, sound.shortBefore, sound.othersBefore, sound.countsBefore⟩
  | formed | oversize | conflict => exact others (by simp [train])

theorem noteEpoch_rosters (epoch : Epoch) (s : State) :
    (noteEpoch epoch s).rcl.roster = s.rcl.roster ∧
    (noteEpoch epoch s).rcl.previousRoster = s.rcl.previousRoster ∧
    (noteEpoch epoch s).rcl.trainState = s.rcl.trainState ∧
    (noteEpoch epoch s).rcl.quietTimer = s.rcl.quietTimer := by
  unfold noteEpoch; split <;> exact ⟨rfl, rfl, rfl, rfl⟩

theorem RclSound.noteEpoch {s : State} (epoch : Epoch) (sound : RclSound s.rcl) : RclSound (noteEpoch epoch s).rcl := by
  obtain ⟨roster, previous, train, quiet⟩ := noteEpoch_rosters epoch s
  exact sound.congr roster previous train (quiet ▸ id)

theorem RclSound.beginEpoch {s : State} (epoch : Epoch) (sound : RclSound s.rcl) :
    RclSound (beginEpoch epoch s).rcl := by
  obtain ⟨distinct, short, others, counts⟩ := sound.setAside
  refine RclSound.noteEpoch epoch ⟨?_, ?_, distinct, short, others, ?_, ?_, ?_, ?_, counts⟩ <;>
    simp [selfCount, selfEntry]

/-! ### Storing an entry (R57) -/

theorem storedEntry_count {previous : List RosterEntry} (counts : ∀ x ∈ previous, x.invalidCount ≤ 3) (e : End)
    (hop : Byte) (entry : RollEntry) : (storedEntry e hop entry previous).invalidCount ≤ 3 := by
  unfold storedEntry
  dsimp only
  cases found : previous.find? fun x => x.identity = entry.identity with
  | none => exact Nat.zero_le _
  | some old => exact counts old (List.mem_of_find?_eq_some found)

theorem RclSound.storeRollEntry {s : State} (e : End) (hop : Byte) (entry : RollEntry)
    (forming : s.rcl.trainState = .forming) (sound : RclSound s.rcl) :
    RclSound (storeRollEntry e hop entry s).rcl := by
  have timer (q : Rcl) (roster : q.roster = s.rcl.roster) (previous : q.previousRoster = s.rcl.previousRoster)
      (train : q.trainState = s.rcl.trainState) : RclSound q := by
    refine ⟨roster ▸ sound.short, roster ▸ sound.distinct, previous ▸ sound.distinctBefore,
      previous ▸ sound.shortBefore, previous ▸ sound.othersBefore, ?_, ?_, ?_, roster ▸ sound.counts,
      previous ▸ sound.countsBefore⟩
    · simp [train, forming]
    · exact fun _ => roster ▸ sound.selfOnce (by simp [forming])
    · simp [train, forming]
  unfold Machine.storeRollEntry
  dsimp only
  split
  · exact timer _ rfl rfl rfl
  · next unknown =>
    split
    · exact timer _ rfl rfl rfl
    · next room =>
      have fresh : ∀ x ∈ s.rcl.roster, x.identity ≠ entry.identity := by simpa using unknown
      refine ⟨?_, ?_, sound.distinctBefore, sound.shortBefore, sound.othersBefore, ?_, ?_, ?_, ?_, sound.countsBefore⟩
      · simp only [rosterCapacity] at room
        simp
        omega
      · rw [List.map_append, List.nodup_append]
        refine ⟨sound.distinct, List.nodup_singleton _, ?_⟩
        simpa [storedEntry] using fresh
      · simp [forming]
      · have once := sound.selfOnce (by simp [forming])
        exact fun _ => by simpa [selfCount, storedEntry] using once
      · simp [forming]
      · intro x mem
        obtain old | new := List.mem_append.1 mem
        · exact sound.counts x old
        · exact List.mem_singleton.1 new ▸ storedEntry_count sound.countsBefore e hop entry

/-! ### Liveness (R67, R68) -/

theorem isUpdate_keeps {now : Nat} {f : RosterEntry → RosterEntry} (update : isUpdate now f) (x : RosterEntry) :
    (f x).identity = x.identity ∧ (f x).side = x.side ∧ (x.invalidCount ≤ 3 → (f x).invalidCount ≤ 3) := by
  obtain ⟨c, rfl⟩ | ⟨t, rfl⟩ := update
  · exact ⟨rfl, rfl, id⟩
  · unfold applySample
    split
    · exact ⟨rfl, rfl, fun _ => Nat.zero_le _⟩
    · exact ⟨rfl, rfl, fun _ => Nat.min_le_left _ _⟩

theorem updateMatching_map {β : Type} {g : RosterEntry → β} {f : RosterEntry → RosterEntry}
    (kept : ∀ x, g (f x) = g x) (id : Identity) (e : End) (hop : Byte) (l : List RosterEntry) :
    (updateMatching id e hop f l).map g = l.map g := by
  unfold updateMatching
  rw [List.map_map]
  refine List.map_congr_left fun x _ => ?_
  simp only [Function.comp_apply]
  split
  · exact kept x
  · rfl

section
variable {now : Nat} {f : RosterEntry → RosterEntry} (update : isUpdate now f) (id : Identity) (e : End) (hop : Byte)
  {l : List RosterEntry}
include update

theorem updateMatching_distinct (distinct : (l.map RosterEntry.identity).Nodup) :
    ((updateMatching id e hop f l).map RosterEntry.identity).Nodup := by
  rwa [updateMatching_map (fun x => (isUpdate_keeps update x).1)]

theorem updateMatching_side : (updateMatching id e hop f l).map RosterEntry.side = l.map RosterEntry.side :=
  updateMatching_map (fun x => (isUpdate_keeps update x).2.1) _ _ _ _

theorem updateMatching_counts (counts : ∀ x ∈ l, x.invalidCount ≤ 3) :
    ∀ x ∈ updateMatching id e hop f l, x.invalidCount ≤ 3 := by
  intro x mem
  obtain ⟨y, inList, rfl⟩ := List.mem_map.1 mem
  split
  · exact (isUpdate_keeps update y).2.2 (counts y inList)
  · exact counts y inList

theorem updateMatching_others (others : ∀ x ∈ l, x.side ≠ .self) :
    ∀ x ∈ updateMatching id e hop f l, x.side ≠ .self := by
  intro x mem
  obtain ⟨y, inList, rfl⟩ := List.mem_map.1 mem
  split
  · exact (isUpdate_keeps update y).2.1 ▸ others y inList
  · exact others y inList

end

@[simp] theorem updateMatching_length (id : Identity) (e : End) (hop : Byte) (f : RosterEntry → RosterEntry)
    (l : List RosterEntry) : (updateMatching id e hop f l).length = l.length := List.length_map _

/-- The frame's update of the roster, and in FORMING of the previous roster. -/
theorem applyToRosters_rcl (id : Identity) (e : End) (hop : Byte) (f : RosterEntry → RosterEntry) (s : State) :
    (applyToRosters id e hop f s).rcl = { s.rcl with
      roster := updateMatching id e hop f s.rcl.roster
      previousRoster := if s.rcl.trainState = .forming then updateMatching id e hop f s.rcl.previousRoster
        else s.rcl.previousRoster } := by
  unfold applyToRosters
  dsimp only
  split <;> rfl

theorem RclSound.applyToRosters {s : State} {f : RosterEntry → RosterEntry} (update : isUpdate s.now f) (id : Identity)
    (e : End) (hop : Byte) (sound : RclSound s.rcl) : RclSound (applyToRosters id e hop f s).rcl := by
  obtain ⟨short, distinct, distinctBefore, shortBefore, othersBefore, noneEmpty, selfOnce, quiet, counts,
    countsBefore⟩ := sound
  have once (train : s.rcl.trainState ≠ .none) : selfCount (updateMatching id e hop f s.rcl.roster) = 1 := by
    rw [selfCount_eq, updateMatching_side update, ← selfCount_eq]
    exact selfOnce train
  rw [applyToRosters_rcl]
  by_cases forming : s.rcl.trainState = .forming
  · simp only [if_pos forming]
    exact ⟨by simpa using short, updateMatching_distinct update id e hop distinct,
      updateMatching_distinct update id e hop distinctBefore, by simpa using shortBefore,
      updateMatching_others update id e hop othersBefore, by simp [forming], once, by simp [forming],
      updateMatching_counts update id e hop counts, updateMatching_counts update id e hop countsBefore⟩
  · simp only [if_neg forming]
    exact ⟨by simpa using short, updateMatching_distinct update id e hop distinct, distinctBefore, shortBefore,
      othersBefore, fun isNone => by simp [updateMatching, noneEmpty isNone], once, quiet,
      updateMatching_counts update id e hop counts, countsBefore⟩

/-! ### Formation (R60) -/

theorem formTrain_rcl (s : State) : (formTrain s).rcl = { s.rcl with
    previousRoster := [], trainState := .formed, roster := formedRoster s.svc.config.identity s.rcl.roster } := by
  simp [formTrain, raiseRollDone]

theorem formWithout_rcl (outcome : TrainState) (s : State) :
    (formWithout outcome s).rcl = { s.rcl with previousRoster := [], trainState := outcome } := by
  simp [formWithout, raiseRollDone]

/-- A running quiet timer is that of FORMING. -/
theorem RclSound.forming_of_quiet_runs {r : Rcl} (sound : RclSound r) (runs : r.quietTimer.isSome = true) :
    r.trainState = .forming := by
  by_contra other
  simp [(sound.quiet other).2] at runs

theorem RclSound.formedRoster {r : Rcl} (own : Identity) (sound : RclSound r) :
    (formedRoster own r.roster).length ≤ 16 ∧ ((formedRoster own r.roster).map RosterEntry.identity).Nodup ∧
      selfCount (formedRoster own r.roster) = selfCount r.roster ∧
      ∀ x ∈ formedRoster own r.roster, x.invalidCount ≤ 3 := by
  have identities := formedRoster_map_perm (g := RosterEntry.identity) (fun _ _ _ => rfl) (fun _ _ _ => rfl) own r.roster
  have sides := formedRoster_map_perm (g := RosterEntry.side) (fun _ _ _ => rfl) (fun _ _ _ => rfl) own r.roster
  have invalid := formedRoster_map_perm (g := RosterEntry.invalidCount) (fun _ _ _ => rfl) (fun _ _ _ => rfl) own r.roster
  have sameLength := identities.length_eq
  simp only [List.length_map] at sameLength
  refine ⟨sameLength ▸ sound.short, identities.nodup_iff.2 sound.distinct, ?_, fun x mem => ?_⟩
  · rw [selfCount_eq, selfCount_eq]
    exact sides.countP_eq _
  · obtain ⟨y, inRoster, same⟩ := List.mem_map.1 (invalid.subset (List.mem_map_of_mem mem))
    exact same ▸ sound.counts y inRoster

theorem RclSound.formTrain {s : State} (sound : RclSound s.rcl) (runs : s.rcl.quietTimer.isSome = true) :
    RclSound (formTrain { s with rcl.quietTimer := none }).rcl := by
  have once := sound.selfOnce (by simp [sound.forming_of_quiet_runs runs])
  obtain ⟨short, distinct, selves, counts⟩ := sound.formedRoster s.svc.config.identity
  rw [formTrain_rcl]
  exact ⟨short, distinct, List.nodup_nil, Nat.zero_le _, fun _ mem => (nomatch mem), fun impossible => (nomatch impossible),
    fun _ => selves.trans once, fun _ => ⟨rfl, rfl⟩, counts, fun _ mem => nomatch mem⟩

theorem RclSound.formWithout {s : State} {outcome : TrainState} (sound : RclSound s.rcl)
    (runs : s.rcl.quietTimer.isSome = true) (fails : outcome = .oversize ∨ outcome = .conflict) :
    RclSound (formWithout outcome { s with rcl.quietTimer := none }).rcl := by
  have once := sound.selfOnce (by simp [sound.forming_of_quiet_runs runs])
  rw [formWithout_rcl]
  refine ⟨sound.short, sound.distinct, List.nodup_nil, Nat.zero_le _, fun _ mem => (nomatch mem), ?_, fun _ => once,
    fun _ => ⟨rfl, rfl⟩, sound.counts, fun _ mem => nomatch mem⟩
  obtain rfl | rfl := fails <;> simp

/-! ## The step -/

theorem RclSound.powerOn : RclSound rclPowerOn :=
  ⟨by decide, by decide, by decide, by decide, fun _ mem => (nomatch mem), fun _ => rfl, fun train => absurd rfl train,
    fun _ => ⟨rfl, rfl⟩, fun _ mem => (nomatch mem), fun _ mem => nomatch mem⟩

theorem RclSound.stopQuiet {r : Rcl} (sound : RclSound r) : RclSound { r with quietTimer := none } :=
  sound.congr rfl rfl rfl fun _ => rfl

theorem Move.keeps_rclSound {s s' : State} (sound : RclSound s.rcl) (move : Move s s') : RclSound s'.rcl := by
  cases move with
  | notesEpoch epoch => exact sound.noteEpoch epoch
  | entersEpoch epoch => exact sound.beginEpoch epoch
  | keepsTrigger => exact sound.congr rfl rfl rfl id
  | storesEntry e hop entry _ forming => exact sound.storeRollEntry e hop entry forming
  | updatesEntries id e hop update => exact sound.applyToRosters update id e hop
  | stopsQuiet => exact sound.stopQuiet
  | forms runs => exact sound.formTrain runs
  | formsWithout outcome runs fails => exact sound.formWithout runs fails
  | restarts => exact RclSound.powerOn.congr rfl rfl rfl id
  | _ => simpa [changeRawSupply, changeRawInhibit, demandReversal] using sound

/-- Settles O8: entering an epoch, storing an entry, liveness and formation keep the rosters. -/
theorem stepKeepsRosterSound : Obligations.StepKeepsRosterSound := by
  refine keptByStep_of_move (fun s q sound => sound) (fun s x y _ => (rosterSound_iff _).2 RclSound.powerOn) ?_ ?_ ?_
  · intro s t sound
    rw [rosterSound_iff] at sound ⊢
    refine sound.congr (by simp) (by simp) (by simp) fun stopped => ?_
    unfold State.lapse
    split <;> simp [stopped, growTimer]
  · intro s sound
    simpa [rosterSound] using sound
  · intro s s' sound move
    rw [rosterSound_iff] at sound ⊢
    exact move.keeps_rclSound sound

end Sys2Proof.Machine
end

section
/-! SUPPORT. The invariant of the slots and the preview queues: the binding rules keep the slots distinct, and what joins
or leaves a queue keeps it in order. -/

namespace Sys2Proof.Machine

/-! ## Queues in order (R92, R97, R101) -/

theorem inQueueOrder_of_cons {e : PreviewEntry} {q : List PreviewEntry} (order : inQueueOrder (e :: q) = true) :
    inQueueOrder q = true := by
  cases q with
  | nil => rfl
  | cons e' q =>
    simp only [inQueueOrder, Bool.and_eq_true] at order
    exact order.2

theorem inQueueOrder_of_suffix {q r : List PreviewEntry} (suffix : q <:+ r) (order : inQueueOrder r = true) :
    inQueueOrder q = true := by
  obtain ⟨gone, rfl⟩ := suffix
  induction gone with
  | nil => exact order
  | cons e gone ih => exact ih (inQueueOrder_of_cons order)

/-- An entry that may join behind the tail keeps the order. -/
theorem inQueueOrder_concat {q : List PreviewEntry} {tail e : PreviewEntry} (last : q.getLast? = some tail)
    (joins : mayJoin tail e = true) (order : inQueueOrder q = true) : inQueueOrder (q ++ [e]) = true := by
  induction q with
  | nil => cases last
  | cons x r ih =>
    cases r with
    | nil =>
      cases last
      simpa [inQueueOrder, mayJoin] using joins
    | cons y r =>
      have inner := ih (by simpa using last) (inQueueOrder_of_cons order)
      simp only [inQueueOrder, Bool.and_eq_true] at order
      simp only [List.cons_append] at inner ⊢
      simp only [inQueueOrder, order.1.1, order.1.2, inner, Bool.and_self]

theorem queueSound_nil : queueSound [] := by simp [queueSound, inQueueOrder]

theorem queueSound_of_suffix {q r : List PreviewEntry} (suffix : q <:+ r) (sound : queueSound r) : queueSound q :=
  ⟨suffix.length_le.trans sound.1, inQueueOrder_of_suffix suffix sound.2.1, fun e mem => sound.2.2 e (suffix.subset mem)⟩

theorem consume_suffix (lp : Distance) (q : List PreviewEntry) : consume lp q <:+ q := by
  induction q with
  | nil => exact List.suffix_rfl
  | cons e q ih =>
    cases q with
    | nil => exact List.suffix_rfl
    | cons e' q =>
      unfold consume
      split
      · exact List.suffix_rfl
      · exact ih.trans (List.suffix_cons e _)

theorem queueSound_singleton {e : PreviewEntry} (value : within 3000 e.accel) : queueSound [e] :=
  ⟨by simp, rfl, fun x mem => List.mem_singleton.1 mem ▸ value⟩

theorem queueSound_concat {q : List PreviewEntry} {tail e : PreviewEntry} (last : q.getLast? = some tail)
    (joins : mayJoin tail e = true) (room : q.length < 256) (value : within 3000 e.accel) (sound : queueSound q) :
    queueSound (q ++ [e]) := by
  refine ⟨by simp; omega, inQueueOrder_concat last joins sound.2.1, fun x mem => ?_⟩
  obtain old | new := List.mem_append.1 mem
  · exact sound.2.2 x old
  · exact List.mem_singleton.1 new ▸ value

/-! ## The slots through the binding rules (R78 to R85) -/

/-- The slots name different sources, an empty one has an empty queue, and both queues are sound. -/
structure SlotsSound (x : Slots) : Prop where
  distinct : ∀ p b, x.p = some p → x.s = some b → p.identity ≠ b.identity
  emptyP : x.p = none → x.queueP = []
  emptyS : x.s = none → x.queueS = []
  orderP : queueSound x.queueP
  orderS : queueSound x.queueS

section
variable {x : Slots} (sound : SlotsSound x)
include sound

theorem SlotsSound.afterEmptyP : SlotsSound (Machine.emptyP x) :=
  ⟨fun _ _ boundP => (nomatch boundP), fun _ => rfl, sound.emptyS, queueSound_nil, sound.orderS⟩

theorem SlotsSound.afterEmptyS : SlotsSound (Machine.emptyS x) :=
  ⟨fun _ _ _ boundS => (nomatch boundS), sound.emptyP, fun _ => rfl, sound.orderP, queueSound_nil⟩

theorem SlotsSound.afterMove : SlotsSound (moveSToP x) :=
  ⟨fun _ _ _ boundS => (nomatch boundS), sound.emptyS, fun _ => rfl, sound.orderS, queueSound_nil⟩

theorem SlotsSound.afterExchange : SlotsSound (exchangeSlots x) :=
  ⟨fun _ _ boundP boundS => (sound.distinct _ _ boundS boundP).symm, sound.emptyS, sound.emptyP, sound.orderS,
    sound.orderP⟩

theorem SlotsSound.afterBind {b : Source} (other : ∀ p, x.p = some p → p.identity ≠ b.identity) :
    SlotsSound (bindS b x) := by
  refine ⟨fun p c boundP boundS => ?_, sound.emptyP, fun unbound => (nomatch unbound), sound.orderP, queueSound_nil⟩
  cases boundS
  exact other p boundP

theorem SlotsSound.losePrimary (g : Grounds) : SlotsSound (losePrimary g x) := by
  unfold Machine.losePrimary
  split
  · split
    · exact sound.afterMove
    · exact sound.afterEmptyP
  · exact sound

theorem SlotsSound.loseSecond (g : Grounds) : SlotsSound (loseSecond g x) := by
  unfold Machine.loseSecond
  split
  · exact sound.afterEmptyS
  · exact sound

theorem SlotsSound.raiseDesired (g : Grounds) : SlotsSound (raiseDesired g x) := by
  unfold Machine.raiseDesired
  split
  · exact sound
  · split
    · next p desired _ boundP _ =>
      split
      · exact sound
      · next differs =>
        split
        · split
          · exact sound.afterExchange
          · exact sound
        · refine sound.afterBind fun q isP => ?_
          cases boundP.symm.trans isP
          exact differs
    · exact sound

theorem SlotsSound.promoteSecond (g : Grounds) : SlotsSound (promoteSecond g x) := by
  unfold Machine.promoteSecond
  split
  · exact sound.afterMove
  · exact sound

theorem SlotsSound.fillSecond (g : Grounds) : SlotsSound (fillSecond g x) := by
  unfold Machine.fillSecond
  split
  · exact sound
  · split
    · next b found =>
      refine sound.afterBind fun p boundP => ?_
      simpa [boundP] using List.find?_some found
    · exact sound

theorem SlotsSound.fullEvaluation (g : Grounds) : SlotsSound (fullEvaluation g x) :=
  ((((sound.losePrimary g).loseSecond g).raiseDesired g).promoteSecond g).fillSecond g

theorem SlotsSound.promotionCheck (g : Grounds) : SlotsSound (promotionCheck g x) := by
  unfold Machine.promotionCheck
  dsimp only
  split
  · exact ((sound.raiseDesired g).promoteSecond g).fillSecond g
  · exact (sound.raiseDesired g).promoteSecond g

theorem SlotsSound.reoffsetP (s : State) : SlotsSound (reoffsetP s x) := by
  unfold Machine.reoffsetP
  split
  · exact sound
  · next b boundP =>
    split
    · exact sound
    · split
      · exact sound.afterEmptyP
      · refine ⟨fun p c isP boundS => ?_, fun unbound => (nomatch unbound), sound.emptyS, sound.orderP, sound.orderS⟩
        cases isP
        exact sound.distinct b c boundP boundS

theorem SlotsSound.reoffsetS (s : State) : SlotsSound (reoffsetS s x) := by
  unfold Machine.reoffsetS
  split
  · exact sound
  · next b boundS =>
    split
    · exact sound
    · split
      · exact sound.afterEmptyS
      · refine ⟨fun p c boundP isS => ?_, sound.emptyP, fun unbound => (nomatch unbound), sound.orderP, sound.orderS⟩
        cases isS
        exact sound.distinct p b boundP boundS

end

/-! ## The steps of SRC (R76, R86 to R89) -/

theorem previewSound_iff (s : State) : previewSound s ↔ SlotsSound (slotsOf s) := by
  constructor
  · rintro ⟨distinct, emptyP, emptyS, orderP, orderS⟩
    refine ⟨fun p b boundP boundS => ?_, emptyP, emptyS, orderP, orderS⟩
    simp only [slotsOf] at boundP boundS
    simpa [boundP, boundS, slotIdentity] using distinct
  · rintro ⟨distinct, emptyP, emptyS, orderP, orderS⟩
    refine ⟨fun isP isS => ?_, emptyP, emptyS, orderP, orderS⟩
    obtain ⟨p, boundP⟩ := Option.isSome_iff_exists.1 isP
    obtain ⟨b, boundS⟩ := Option.isSome_iff_exists.1 isS
    simpa [boundP, boundS, slotIdentity] using distinct p b boundP boundS

theorem slotsOf_congr {s s' : State} (slotP : s'.src.slotP = s.src.slotP) (slotS : s'.src.slotS = s.src.slotS)
    (queueP : s'.pvq.queueP = s.pvq.queueP) (queueS : s'.pvq.queueS = s.pvq.queueS) : slotsOf s' = slotsOf s := by
  simp [slotsOf, slotP, slotS, queueP, queueS]

theorem slotsOf_putSlots (x : Slots) (s : State) : slotsOf (putSlots x s) = { x with changed := false } := rfl

/-- A step that ends leaves the slots that it was given. -/
theorem slotsOf_endStep (cause : SourceCause) (pBefore : Identity) (x : Slots) (s : State) :
    slotsOf (endStep cause pBefore x s) = { x with changed := false } := by
  obtain ⟨-, steps⟩ | ⟨-, puts⟩ := endStep_cases cause pBefore x s
  · rw [steps, ← slotsOf_putSlots x s]
    exact slotsOf_congr (by simp [raiseSourceChange]) (by simp [raiseSourceChange]) (by simp [raiseSourceChange])
      (by simp [raiseSourceChange])
  · rw [puts, slotsOf_putSlots]

theorem SlotsSound.unchanged {x : Slots} (sound : SlotsSound x) : SlotsSound { x with changed := false } :=
  ⟨sound.distinct, sound.emptyP, sound.emptyS, sound.orderP, sound.orderS⟩

theorem SlotsSound.endStep {x : Slots} (sound : SlotsSound x) (cause : SourceCause) (pBefore : Identity) (s : State) :
    SlotsSound (slotsOf (endStep cause pBefore x s)) := by
  rw [slotsOf_endStep]; exact sound.unchanged

section
variable {s : State} (sound : SlotsSound (slotsOf s))
include sound

theorem SlotsSound.judgeAtFrame : SlotsSound (slotsOf (judgeAtFrame s)) := by
  obtain ⟨-, -, full⟩ | ⟨-, judged⟩ := judgeAtFrame_cases s
  · exact full ▸ (sound.fullEvaluation _).endStep _ _ _
  · exact judged ▸ sound

theorem SlotsSound.judgeAtExpiry : SlotsSound (slotsOf (judgeAtExpiry s)) := by
  obtain ⟨-, -, full⟩ | ⟨-, -, promotion⟩ | ⟨-, judged⟩ := judgeAtExpiry_cases s
  · exact full ▸ (sound.fullEvaluation _).endStep _ _ _
  · exact promotion ▸ (sound.promotionCheck _).endStep _ _ _
  · exact judged ▸ sound

theorem SlotsSound.sourceReversal : SlotsSound (slotsOf (sourceReversal s)) := by
  have emptied := sound.afterEmptyP.afterEmptyS
  unfold Machine.sourceReversal
  dsimp only
  split
  · exact (emptied.fullEvaluation _).endStep _ _ _
  · exact emptied.endStep _ _ _

theorem SlotsSound.sourceFormed : SlotsSound (slotsOf (sourceFormed s)) :=
  (((sound.reoffsetP s).reoffsetS s).fullEvaluation _).endStep _ _ _

theorem SlotsSound.sourceNotFormed : SlotsSound (slotsOf (sourceNotFormed s)) :=
  sound.afterEmptyP.afterEmptyS.endStep _ _ _

/-- CSO's neighbours say nothing of the slots. -/
theorem SlotsSound.formTrain : SlotsSound (slotsOf (formTrain { s with rcl.quietTimer := none })) := by
  unfold Machine.formTrain
  dsimp only
  exact SlotsSound.sourceFormed (s := raiseRollDone _) sound

theorem SlotsSound.formWithout (outcome : TrainState) :
    SlotsSound (slotsOf (formWithout outcome { s with rcl.quietTimer := none })) := by
  unfold Machine.formWithout
  exact SlotsSound.sourceNotFormed (s := raiseRollDone _) sound

end

/-! ## The taking of samples (R94 to R100) -/

/-- The source bound in a slot. -/
def slotSource (s : State) : Slot → Option Source
  | .p => s.src.slotP
  | .s => s.src.slotS

theorem slotQueue_congr {s s' : State} (queueP : s'.pvq.queueP = s.pvq.queueP) (queueS : s'.pvq.queueS = s.pvq.queueS)
    (k : Slot) : slotQueue s' k = slotQueue s k := by
  cases k <;> [exact queueP; exact queueS]

@[simp] theorem slotQueue_setSlotQueue (k : Slot) (q : List PreviewEntry) (s : State) :
    slotQueue (setSlotQueue k q s) k = q := by cases k <;> rfl

theorem slotQueue_setSlotQueue_of_ne {k j : Slot} (other : j ≠ k) (q : List PreviewEntry) (s : State) :
    slotQueue (setSlotQueue k q s) j = slotQueue s j := by
  cases k <;> cases j <;> simp_all [slotQueue, setSlotQueue]

@[simp] theorem slotQueue_setSlotCounts (k j : Slot) (c : SlotCounts) (s : State) :
    slotQueue (setSlotCounts k c s) j = slotQueue s j := by cases k <;> cases j <;> rfl

@[simp] theorem slotQueue_raise (k : Slot) (d : Detail) (s : State) : slotQueue (s.raise d) k = slotQueue s k := by
  cases k <;> rfl

@[simp] theorem slotQueue_crossCheck (k j : Slot) (e : PreviewEntry) (s : State) :
    slotQueue (crossCheck k e s) j = slotQueue s j := slotQueue_congr (by simp) (by simp) j

/-- A full queue loses its head, and no other queue anything (R99). -/
theorem slotQueue_makeRoom (k j : Slot) (s : State) :
    slotQueue (makeRoom k s) j =
      if j = k ∧ 256 ≤ (slotQueue s k).length then (slotQueue s k).tail else slotQueue s j := by
  unfold makeRoom queueCapacity
  by_cases full : 256 ≤ (slotQueue s k).length
  · rw [if_pos full]
    by_cases same : j = k
    · simp [same, full]
    · simp [same, slotQueue_setSlotQueue_of_ne same]
  · simp [full]

/-- An entry that joins stands at the tail of its slot's queue, and every other queue as it stood (R100). -/
theorem slotQueue_joinEntry (k j : Slot) (e : PreviewEntry) (s : State) :
    slotQueue (joinEntry k e s) j = if j = k then slotQueue s k ++ [e] else slotQueue s j := by
  unfold joinEntry
  by_cases same : j = k
  · simp [same]
  · simp [same, slotQueue_setSlotQueue_of_ne same]

theorem slotQueue_countGap (k j : Slot) (missing : Nat) (s : State) :
    slotQueue (countGap k missing s) j = slotQueue s j := by simp [countGap]

theorem slotQueue_countOutOfOrder (k j : Slot) (s : State) :
    slotQueue (countOutOfOrder k s) j = slotQueue s j := by simp [countOutOfOrder]

/-- The join rules keep every queue sound (R96 to R99). -/
theorem joinOrRefuse_queueSound {k : Slot} {e : PreviewEntry} {s : State} (value : within 3000 e.accel)
    (sound : ∀ j, queueSound (slotQueue s j)) (j : Slot) : queueSound (slotQueue (joinOrRefuse k e s) j) := by
  unfold joinOrRefuse
  split
  · next empty =>
    rw [slotQueue_joinEntry, List.getLast?_eq_none_iff.1 empty]
    split
    · exact queueSound_singleton value
    · exact sound j
  · next tail last =>
    split
    · next joins =>
      rw [slotQueue_joinEntry, slotQueue_makeRoom, slotQueue_makeRoom]
      simp only [slotQueue_countGap, true_and]
      have short := (sound k).1
      by_cases same : j = k
      · rw [if_pos same]
        split
        · next full =>
          have tailLast : (slotQueue s k).tail.getLast? = some tail := by
            rw [List.getLast?_tail, if_neg (by omega), last]
          exact queueSound_concat tailLast joins (by simp; omega) value
            (queueSound_of_suffix (List.tail_suffix _) (sound k))
        · exact queueSound_concat last joins (by omega) value (sound k)
      · simpa [same] using sound j
    · rw [slotQueue_countOutOfOrder]
      exact sound j

/-- An unbound slot's queue is left empty by the join rules of the other slot. -/
theorem joinOrRefuse_other {k j : Slot} (other : j ≠ k) (e : PreviewEntry) (s : State) :
    slotQueue (joinOrRefuse k e s) j = slotQueue s j := by
  unfold joinOrRefuse
  split
  · simp [slotQueue_joinEntry, other]
  · split
    · simp [slotQueue_joinEntry, slotQueue_makeRoom, slotQueue_countGap, other]
    · exact slotQueue_countOutOfOrder _ _ _

theorem slotOf_bound {s : State} {id : Identity} {k : Slot} {offset : Int} (bound : slotOf s id = some (k, offset)) :
    slotSource s k = some ⟨id, offset⟩ := by
  have isSource {x : Source} (same : x.identity = id) : some x = some ⟨id, x.offset⟩ := by subst same; rfl
  unfold slotOf at bound
  split at bound
  · next x y isP isS =>
    split at bound
    · next same => cases bound; exact isP.trans (isSource same)
    · split at bound
      · next same => cases bound; exact isS.trans (isSource same)
      · cases bound
  · next x isP isS =>
    split at bound
    · next same => cases bound; exact isP.trans (isSource same)
    · cases bound
  · next y isP isS =>
    split at bound
    · next same => cases bound; exact isS.trans (isSource same)
    · cases bound
  · cases bound

theorem slotsSound_iff (s : State) :
    SlotsSound (slotsOf s) ↔
      (∀ p b, s.src.slotP = some p → s.src.slotS = some b → p.identity ≠ b.identity) ∧
      ∀ k, (slotSource s k = none → slotQueue s k = []) ∧ queueSound (slotQueue s k) := by
  constructor
  · rintro ⟨distinct, emptyP, emptyS, orderP, orderS⟩
    exact ⟨distinct, fun k => by cases k <;> [exact ⟨emptyP, orderP⟩; exact ⟨emptyS, orderS⟩]⟩
  · rintro ⟨distinct, queues⟩
    exact ⟨distinct, (queues .p).1, (queues .s).1, (queues .p).2, (queues .s).2⟩

theorem SlotsSound.takeSample {s : State} (t : TrackSample) (age : Nat) (sound : SlotsSound (slotsOf s)) :
    SlotsSound (slotsOf (takeSample t age s)) := by
  have frame : (Machine.takeSample t age s).src = s.src := by simp
  rw [slotsSound_iff] at sound ⊢
  obtain ⟨distinct, queues⟩ := sound
  refine ⟨frame ▸ distinct, fun k => ?_⟩
  have source : slotSource (Machine.takeSample t age s) k = slotSource s k := by
    cases k <;> simp [slotSource]
  rw [source]
  unfold Machine.takeSample
  split
  · exact queues k
  · next j offset bound =>
    split
    · refine ⟨fun unbound => ?_, joinOrRefuse_queueSound (within_limit 3000 _) (fun i => (queues i).2) k⟩
      have other : k ≠ j := by
        rintro rfl
        simp [slotOf_bound bound] at unbound
      rw [joinOrRefuse_other other]
      exact (queues k).1 unbound
    · exact queues k

/-! ## The step -/

theorem SlotsSound.consumed {s : State} (lp : Distance) (sound : SlotsSound (slotsOf s)) :
    SlotsSound (slotsOf (consumeQueues lp s)) :=
  ⟨sound.distinct, fun unbound => by simp [slotsOf, consumeQueues, show s.pvq.queueP = [] from sound.emptyP unbound, consume],
    fun unbound => by simp [slotsOf, consumeQueues, show s.pvq.queueS = [] from sound.emptyS unbound, consume],
    queueSound_of_suffix (consume_suffix lp _) sound.orderP, queueSound_of_suffix (consume_suffix lp _) sound.orderS⟩

/-- After its start, the control expiry leaves the slots as SRC's judgement and PVQ's consumption do. -/
theorem slotsOf_controlExpiry {s : State} (started : s.svc.startState ≠ .loading) :
    slotsOf (controlExpiry s) =
      slotsOf (workPreview (workLookahead { s with odo := evaluateSpeed s.odo })) := by
  unfold controlExpiry
  dsimp only
  rw [if_neg started]
  exact slotsOf_congr (by simp) (by simp) (by simp) (by simp)

theorem SlotsSound.controlExpiry {s : State} (sound : SlotsSound (slotsOf s)) :
    SlotsSound (slotsOf (controlExpiry s)) := by
  by_cases loading : s.svc.startState = .loading
  · unfold Machine.controlExpiry
    rw [if_pos loading]
    exact sound
  · rw [slotsOf_controlExpiry loading]
    exact SlotsSound.consumed _ (SlotsSound.judgeAtExpiry
      (s := workLookahead { s with odo := evaluateSpeed s.odo }) sound)

theorem Move.keeps_slotsSound {s s' : State} (sound : SlotsSound (slotsOf s)) (move : Move s s') :
    SlotsSound (slotsOf s') := by
  cases move with
  | judges => exact sound.judgeAtFrame
  | forms => exact sound.formTrain
  | formsWithout outcome => exact sound.formWithout outcome
  | takesSample t age => exact sound.takeSample t age
  | reverses => exact sound.sourceReversal
  | restarts => exact ⟨fun _ _ boundP => (nomatch boundP), fun _ => rfl, fun _ => rfl, queueSound_nil, queueSound_nil⟩
  | _ => simpa [slotsOf, changeRawSupply, changeRawInhibit, demandReversal] using sound

/-- Settles O9: the binding rules, the join rules and the consumption keep the slots. -/
theorem stepKeepsPreviewSound : Obligations.StepKeepsPreviewSound := by
  refine keptByStep_of_move (fun s q sound => sound) (fun s x y _ => ?_) ?_ ?_ ?_
  · exact (previewSound_iff _).2
      ⟨fun _ _ boundP => (nomatch boundP), fun _ => rfl, fun _ => rfl, queueSound_nil, queueSound_nil⟩
  · intro s t sound
    simpa [previewSound] using sound
  · intro s sound
    rw [previewSound_iff] at sound ⊢
    exact sound.controlExpiry
  · intro s s' sound move
    rw [previewSound_iff] at sound ⊢
    exact move.keeps_slotsSound sound

end Sys2Proof.Machine
end

section
/-! SUPPORT. The invariant of START and of the bindings: what START holds still, and where no slot is bound. -/

namespace Sys2Proof.Machine

/-! ## XCK and DMD through a sample (R100, R113) -/

/-- A joined entry is counted unmatched, judged in a pair, or left, the last alone where a slot is empty (R113). -/
theorem crossCheck_cases (k : Slot) (e : PreviewEntry) (s : State) :
    crossCheck k e s = s ∨ (s.src.slotP.isSome = true ∧ s.src.slotS.isSome = true ∧
      (crossCheck k e s = countUnmatched s ∨ ∃ m, crossCheck k e s = judgePair e m s)) := by
  unfold crossCheck
  split
  · exact .inl rfl
  · next bound =>
    simp only [Bool.or_eq_true, Option.isNone_iff_eq_none, not_or] at bound
    refine .inr ⟨Option.isSome_iff_ne_none.2 bound.1, Option.isSome_iff_ne_none.2 bound.2, ?_⟩
    split
    · exact .inl rfl
    · next m _ =>
      split
      · exact .inr ⟨m, rfl⟩
      · exact .inl rfl

/-- A sample leaves XCK and DMD, but for the cross-check of the entry it may join. -/
theorem takeSample_crossCheck (t : TrackSample) (age : Nat) (s : State) :
    ∃ v : State, v.src = s.src ∧ v.xck = s.xck ∧ v.dmd = s.dmd ∧
      (takeSample t age s = v ∨ ∃ k e, takeSample t age s = crossCheck k e v) := by
  unfold takeSample joinOrRefuse
  split
  · exact ⟨s, rfl, rfl, rfl, .inl rfl⟩
  · next k _ _ =>
    split
    · split
      · exact ⟨_, by simp, by simp, by simp, .inr ⟨k, _, rfl⟩⟩
      · split
        · exact ⟨_, by simp [countGap], by simp [countGap], by simp [countGap], .inr ⟨k, _, rfl⟩⟩
        · exact ⟨_, by simp [countOutOfOrder], by simp [countOutOfOrder], by simp [countOutOfOrder], .inl rfl⟩
    · exact ⟨s, rfl, rfl, rfl, .inl rfl⟩

@[simp] theorem raiseSplit_dmd (c : Change) (k : SplitCause) (s : State) : (raiseSplit c k s).dmd = s.dmd := rfl

theorem splitHold_mode (s : State) :
    (splitHold s).dmd.mode = if s.dmd.mode = .preview then .hold else s.dmd.mode := by
  rw [splitHold_eq]
  simp only [holdAtSplit]
  split <;> rfl

/-- The judgement of the latch moves the mode from PREVIEW to HOLD alone (R134). -/
theorem judgeSplit_mode (s : State) :
    (judgeSplit s).dmd.mode = s.dmd.mode ∨ (s.dmd.mode = .preview ∧ (judgeSplit s).dmd.mode = .hold) := by
  obtain ⟨-, -, sets⟩ | ⟨-, -, clears⟩ | ⟨-, -, stays⟩ := judgeSplit_cases s
  · rw [sets, splitHold_mode]
    by_cases preview : s.dmd.mode = .preview <;> simp [preview]
  · exact .inl (by rw [clears]; rfl)
  · exact .inl (by rw [stays])

theorem takeSample_mode (t : TrackSample) (age : Nat) (s : State) :
    (takeSample t age s).dmd.mode = s.dmd.mode ∨
      (s.dmd.mode = .preview ∧ (takeSample t age s).dmd.mode = .hold) := by
  obtain ⟨v, -, -, dmd, same | ⟨k, e, checks⟩⟩ := takeSample_crossCheck t age s
  · exact .inl (by rw [same, dmd])
  · rw [checks, ← dmd]
    obtain left | ⟨-, -, unmatched | ⟨m, pair⟩⟩ := crossCheck_cases k e v
    · exact .inl (by rw [left])
    · exact .inl (by rw [unmatched]; rfl)
    · rw [pair, judgePair_eq]
      exact judgeSplit_mode _

/-! ## START -/

@[simp] theorem noteEpoch_rcl (epoch : Epoch) (s : State) :
    (noteEpoch epoch s).rcl.trainState = s.rcl.trainState ∧ (noteEpoch epoch s).rcl.roster = s.rcl.roster ∧
    (noteEpoch epoch s).rcl.previousRoster = s.rcl.previousRoster ∧
    (noteEpoch epoch s).rcl.currentEpoch = s.rcl.currentEpoch ∧
    (noteEpoch epoch s).rcl.quietTimer = s.rcl.quietTimer ∧
    (noteEpoch epoch s).rcl.triggerHold = s.rcl.triggerHold ∧
    (noteEpoch epoch s).rcl.pendingTrigger = s.rcl.pendingTrigger := by
  unfold noteEpoch; split <;> exact ⟨rfl, rfl, rfl, rfl, rfl, rfl, rfl⟩

@[simp] theorem applyToRosters_rcl_rest (id : Identity) (e : End) (hop : Byte) (f : RosterEntry → RosterEntry)
    (s : State) :
    (applyToRosters id e hop f s).rcl.trainState = s.rcl.trainState ∧
    (applyToRosters id e hop f s).rcl.quietTimer = s.rcl.quietTimer ∧
    (applyToRosters id e hop f s).rcl.triggerHold = s.rcl.triggerHold ∧
    (applyToRosters id e hop f s).rcl.pendingTrigger = s.rcl.pendingTrigger := by
  rw [applyToRosters_rcl]; exact ⟨rfl, rfl, rfl, rfl⟩

theorem startSound_of_done {s : State} (started : s.svc.startState = .done) : startSound s :=
  fun loading => nomatch started.symm.trans loading

/-- With START held still, what takes a trigger has START done. -/
theorem started_of_takesTriggers {s : State} (sound : startSound s) (takes : takesTriggers s) :
    s.svc.startState = .done := by
  obtain done | runs := takes
  · exact done
  · cases start : s.svc.startState with
    | done => rfl
    | loading => simp [(sound start).2.2.1] at runs

theorem started_of_quiet_runs {s : State} (sound : startSound s) (runs : s.rcl.quietTimer.isSome = true) :
    s.svc.startState = .done := by
  cases start : s.svc.startState with
  | done => rfl
  | loading => simp [(sound start).2.1] at runs

theorem startSound_congr {s s' : State} (sound : startSound s) (start : s'.svc.startState = s.svc.startState)
    (train : s'.rcl.trainState = s.rcl.trainState) (quiet : s.rcl.quietTimer = none → s'.rcl.quietTimer = none)
    (hold : s.rcl.triggerHold = none → s'.rcl.triggerHold = none)
    (pending : s'.rcl.pendingTrigger = s.rcl.pendingTrigger)
    (timer : s.cso.carStateTimer = none → s'.cso.carStateTimer = none)
    (mode : s.dmd.mode = .start → s'.dmd.mode = .start) (command : s'.dmd.command = s.dmd.command)
    (target : s'.dmd.target = s.dmd.target) : startSound s' := by
  intro loading
  obtain ⟨isNone, stopped, noHold, noPending, noTimer, isStart, zero, zeroTarget⟩ := sound (start ▸ loading)
  exact ⟨train.trans isNone, quiet stopped, hold noHold, pending.trans noPending, timer noTimer, mode isStart,
    command.trans zero, target.trans zeroTarget⟩

@[simp] theorem restartUnits_startState (s : State) : (restartUnits s).svc.startState = .loading := rfl

theorem startSound_restart {s : State} (allowed : restartRefusal s = none) : startSound (restartUnits s) := by
  have standing : s.dmd.command = 0 := by
    unfold restartRefusal at allowed
    split at allowed
    · cases allowed
    · split at allowed
      · cases allowed
      · split at allowed
        · cases allowed
        · next stands => exact not_not.1 stands
  exact fun _ => ⟨rfl, rfl, rfl, rfl, rfl, rfl, standing, rfl⟩

theorem Move.keeps_startSound {s s' : State} (sound : startSound s) (move : Move s s') : startSound s' := by
  cases move with
  | entersEpoch epoch takes => exact startSound_of_done (by simpa using started_of_takesTriggers sound takes)
  | keepsTrigger hold kept takes =>
    have done := started_of_takesTriggers sound takes
    exact startSound_of_done done
  | storesEntry e hop entry started => exact startSound_of_done (by simpa using started)
  | stopsQuiet => exact startSound_congr sound rfl rfl (fun _ => rfl) id rfl id id rfl rfl
  | forms runs => exact startSound_of_done (by simpa using started_of_quiet_runs sound runs)
  | formsWithout outcome runs => exact startSound_of_done (by simpa using started_of_quiet_runs sound runs)
  | takesSample t age =>
    refine startSound_congr sound (by simp) (by simp) (by simp) (by simp) (by simp) (by simp) (fun isStart => ?_)
      (by simp) (by simp)
    obtain same | ⟨preview, -⟩ := takeSample_mode t age s
    · exact same.trans isStart
    · exact nomatch preview.symm.trans isStart
  | startsCarStateTimer runs =>
    obtain done | runs := runs
    · exact startSound_of_done done
    · intro loading
      simp [(sound loading).2.2.2.2.1] at runs
  | endsStart => exact startSound_of_done rfl
  | restarts allowed => exact startSound_restart allowed
  | _ => simpa [startSound, changeRawSupply, changeRawInhibit, demandReversal] using sound

/-! ## The bindings -/

/-- No slot is bound. -/
def Unbound (x : Slots) : Prop := x.p = none ∧ x.s = none

theorem fillSecond_of_ranking_nil {g : Grounds} {x : Slots} (noRank : g.ranking = []) : fillSecond g x = x := by
  unfold fillSecond
  simp [noRank]

section
variable {g : Grounds} {x : Slots} (unbound : Unbound x)
include unbound

theorem Unbound.losePrimary : losePrimary g x = x := losePrimary_of_p_none g unbound.1

theorem Unbound.loseSecond : loseSecond g x = x := loseSecond_of_s_none g unbound.2

theorem Unbound.raiseDesired : raiseDesired g x = x := by
  unfold Machine.raiseDesired
  split
  · rfl
  · split
    · next bound _ => simp [unbound.1] at bound
    · rfl

theorem Unbound.promoteSecond : promoteSecond g x = x :=
  promoteSecond_of_p_bound_or_s_none (.inr unbound.2)

theorem Unbound.fullEvaluation (noRank : g.ranking = []) : fullEvaluation g x = x := by
  rw [Machine.fullEvaluation, unbound.losePrimary, unbound.loseSecond, unbound.raiseDesired, unbound.promoteSecond,
    fillSecond_of_ranking_nil noRank]

theorem Unbound.promotionCheck (noRank : g.ranking = []) : promotionCheck g x = x := by
  unfold Machine.promotionCheck
  rw [unbound.raiseDesired, unbound.promoteSecond]
  dsimp only
  split
  · exact fillSecond_of_ranking_nil noRank
  · rfl

end

/-- No slot is bound, and no source eligible or ranked. -/
def Barren (r : Src) : Prop := r.slotP = none ∧ r.slotS = none ∧ r.eligible = [] ∧ r.ranking = []

/-- An unconfigured station, and one that judges no entries, has no eligible source (R75). -/
theorem eligibleEntries_eq_nil {s : State} (none : s.svc.unconfigured = true ∨ judgedEntries s.rcl = []) :
    eligibleEntries s = [] := by
  unfold eligibleEntries
  obtain unconfigured | noEntries := none
  · simp [isEligible, unconfigured]
  · unfold stationsAhead
    split <;> simp [noEntries]

theorem newRanking_eq_nil {s : State} (none : eligibleEntries s = []) (noRank : s.src.ranking = []) :
    newRanking s = [] := by
  unfold newRanking
  split
  · exact noRank
  · simp [none, rankSources]

theorem Barren.judgeSources {s : State} (barren : Barren s.src)
    (none : s.svc.unconfigured = true ∨ judgedEntries s.rcl = []) : Barren (judgeSources s).src := by
  obtain ⟨p, second, -, ranking⟩ := barren
  have nothing := eligibleEntries_eq_nil none
  exact ⟨p, second, by simp [Machine.judgeSources, nothing], newRanking_eq_nil nothing ranking⟩

theorem endStep_src (cause : SourceCause) (pBefore : Identity) (x : Slots) (s : State) :
    (endStep cause pBefore x s).src = { s.src with slotP := x.p, slotS := x.s } := by
  obtain ⟨-, steps⟩ | ⟨-, puts⟩ := endStep_cases cause pBefore x s
  · rw [steps]; simp [raiseSourceChange, putSlots]
  · rw [puts]; rfl

theorem Barren.endStep {s : State} {x : Slots} (barren : Barren s.src) (unbound : Unbound x) (cause : SourceCause)
    (pBefore : Identity) : Barren (endStep cause pBefore x s).src := by
  rw [endStep_src]
  exact ⟨unbound.1, unbound.2, barren.2.2.1, barren.2.2.2⟩

theorem Barren.unbound {s : State} (barren : Barren s.src) : Unbound (slotsOf s) := ⟨barren.1, barren.2.1⟩

section
variable {s : State} (barren : Barren s.src)
include barren

theorem Barren.judgeAtFrame (none : s.svc.unconfigured = true ∨ judgedEntries s.rcl = []) :
    Barren (judgeAtFrame s).src := by
  have judged := barren.judgeSources none
  obtain ⟨-, -, full⟩ | ⟨-, same⟩ := judgeAtFrame_cases s
  · rw [full, judged.unbound.fullEvaluation judged.2.2.2]
    exact judged.endStep judged.unbound _ _
  · exact same ▸ judged

theorem Barren.judgeAtExpiry (none : s.svc.unconfigured = true ∨ judgedEntries s.rcl = []) :
    Barren (judgeAtExpiry s).src := by
  have judged := barren.judgeSources none
  obtain ⟨-, -, full⟩ | ⟨-, -, promotion⟩ | ⟨-, same⟩ := judgeAtExpiry_cases s
  · rw [full, judged.unbound.fullEvaluation judged.2.2.2]
    exact judged.endStep judged.unbound _ _
  · rw [promotion, judged.unbound.promotionCheck judged.2.2.2]
    exact judged.endStep judged.unbound _ _
  · exact same ▸ judged

theorem Barren.sourceReversal (none : s.svc.unconfigured = true ∨ judgedEntries s.rcl = []) :
    Barren (sourceReversal s).src := by
  have judged : Barren (Machine.judgeSources (putSlots (emptyS (emptyP (slotsOf s))) s)).src :=
    Barren.judgeSources ⟨rfl, rfl, barren.2.2⟩ none
  have emptied : Unbound (emptyS (emptyP (slotsOf s))) := ⟨rfl, rfl⟩
  unfold Machine.sourceReversal
  dsimp only
  split
  · rw [emptied.fullEvaluation judged.2.2.2]
    exact judged.endStep emptied _ _
  · exact judged.endStep emptied _ _

theorem Barren.sourceFormed (none : s.svc.unconfigured = true ∨ judgedEntries s.rcl = []) :
    Barren (sourceFormed s).src := by
  have kept : reoffsetS s (reoffsetP s (slotsOf s)) = slotsOf s := by
    simp [reoffsetP, reoffsetS, slotsOf, barren.1, barren.2.1]
  have judged : Barren (Machine.judgeSources (putSlots (slotsOf s) s)).src := Barren.judgeSources barren none
  unfold Machine.sourceFormed
  dsimp only
  rw [kept, barren.unbound.fullEvaluation judged.2.2.2]
  exact judged.endStep barren.unbound _ _

end

theorem sourceNotFormed_barren (s : State) : Barren (sourceNotFormed s).src := by
  unfold sourceNotFormed
  rw [endStep_src]
  exact ⟨rfl, rfl, rfl, rfl⟩

/-- Where the rules do not apply, a judgement leaves the slots (R80). -/
theorem judgeAtFrame_slots_of_not_applied {s : State} (out : rulesApply s.rcl = false) :
    (judgeAtFrame s).src.slotP = s.src.slotP ∧ (judgeAtFrame s).src.slotS = s.src.slotS := by
  obtain ⟨applies, -, -⟩ | ⟨-, same⟩ := judgeAtFrame_cases s
  · simp [out] at applies
  · rw [same]; exact ⟨rfl, rfl⟩

theorem judgeAtExpiry_slots_of_not_applied {s : State} (out : rulesApply s.rcl = false) :
    (judgeAtExpiry s).src.slotP = s.src.slotP ∧ (judgeAtExpiry s).src.slotS = s.src.slotS := by
  obtain ⟨applies, -, -⟩ | ⟨applies, -, -⟩ | ⟨-, same⟩ := judgeAtExpiry_cases s
  · simp [out] at applies
  · simp [out] at applies
  · rw [same]; exact ⟨rfl, rfl⟩

theorem sourceReversal_slots_of_not_formed {s : State} (out : s.rcl.trainState ≠ .formed) :
    (sourceReversal s).src.slotP = none ∧ (sourceReversal s).src.slotS = none := by
  unfold sourceReversal
  dsimp only
  rw [if_neg out, endStep_src]
  exact ⟨rfl, rfl⟩

/-- The train state is one in which no binding stands. -/
def outOfTrain (t : TrainState) : Prop := t = .none ∨ t = .oversize ∨ t = .conflict

theorem rulesApply_of_outOfTrain {r : Rcl} (out : outOfTrain r.trainState) : rulesApply r = false := by
  obtain h | h | h := out <;> simp [rulesApply, h]

theorem bindingSound_iff (s : State) : bindingSound s ↔
    (s.svc.startState = .loading → s.rcl.trainState = .none) ∧
    (outOfTrain s.rcl.trainState → s.src.slotP = none ∧ s.src.slotS = none) ∧
    (s.svc.startState = .loading ∨ s.svc.unconfigured = true → Barren s.src) := Iff.rfl

/-- A barren station stays so, being unconfigured or in START without a roster to judge by. -/
theorem judges_nothing {s : State} (idle : s.svc.startState = .loading → s.rcl.trainState = .none)
    (still : s.svc.startState = .loading ∨ s.svc.unconfigured = true) :
    s.svc.unconfigured = true ∨ judgedEntries s.rcl = [] := by
  obtain loading | unconfigured := still
  · exact .inr (by simp [judgedEntries, idle loading])
  · exact .inl unconfigured

theorem bindingSound_judgeAtExpiry {s : State} (sound : bindingSound s) : bindingSound (judgeAtExpiry s) := by
  rw [bindingSound_iff] at sound ⊢
  obtain ⟨idle, out, barren⟩ := sound
  simp only [judgeAtExpiry_frame]
  refine ⟨idle, fun none => ?_, fun still => (barren still).judgeAtExpiry (judges_nothing idle still)⟩
  rw [(judgeAtExpiry_slots_of_not_applied (rulesApply_of_outOfTrain none)).1,
    (judgeAtExpiry_slots_of_not_applied (rulesApply_of_outOfTrain none)).2]
  exact out none

theorem Move.keeps_bindingSound {s s' : State} (start : startSound s) (sound : bindingSound s) (move : Move s s') :
    bindingSound s' := by
  rw [bindingSound_iff] at sound ⊢
  obtain ⟨idle, out, barren⟩ := sound
  cases move with
  | entersEpoch epoch takes =>
    have done := started_of_takesTriggers start takes
    have forming : (beginEpoch epoch s).rcl.trainState = .forming := by simp [beginEpoch]
    simp only [beginEpoch_frame]
    exact ⟨by simp [done], by simp [forming, outOfTrain], barren⟩
  | storesEntry e hop entry started forming =>
    simp only [storeRollEntry_frame]
    exact ⟨by simp [started], by simp [forming, outOfTrain], barren⟩
  | judges =>
    simp only [judgeAtFrame_frame]
    refine ⟨idle, fun none => ?_, fun still => (barren still).judgeAtFrame (judges_nothing idle still)⟩
    rw [(judgeAtFrame_slots_of_not_applied (rulesApply_of_outOfTrain none)).1,
      (judgeAtFrame_slots_of_not_applied (rulesApply_of_outOfTrain none)).2]
    exact out none
  | forms runs =>
    have done := started_of_quiet_runs start runs
    rw [formTrain_rcl]
    simp only [formTrain_frame]
    refine ⟨by simp [done], by simp [outOfTrain], fun still => ?_⟩
    have unconfigured : s.svc.unconfigured = true := by simpa [done] using still
    simp only [formTrain]
    exact Barren.sourceFormed (s := raiseRollDone _) (barren still) (.inl unconfigured)
  | formsWithout outcome runs =>
    have done := started_of_quiet_runs start runs
    have none : Barren (formWithout outcome { s with rcl.quietTimer := none }).src := by
      simp only [formWithout]
      exact sourceNotFormed_barren _
    exact ⟨by simp [done], fun _ => ⟨none.1, none.2.1⟩, fun _ => none⟩
  | reverses =>
    simp only [sourceReversal_frame]
    refine ⟨idle, fun none => sourceReversal_slots_of_not_formed ?_,
      fun still => (barren still).sourceReversal (judges_nothing idle still)⟩
    obtain h | h | h := none <;> simp [h]
  | handsRecord loading =>
    have still := barren (.inl loading)
    exact ⟨by simpa using idle, by simpa using out, by simpa using fun _ => still⟩
  | endsStart => exact ⟨fun loading => (nomatch loading), out, fun still => barren (.inr (by simpa using still))⟩
  | restarts => exact ⟨fun _ => rfl, fun _ => ⟨rfl, rfl⟩, fun _ => ⟨rfl, rfl, rfl, rfl⟩⟩
  | _ => simpa [changeRawSupply, changeRawInhibit, demandReversal] using ⟨idle, out, barren⟩

/-! ## The step -/

theorem startSound_powerOn (serial : BitVec 64) (x y : Bool) (q : List Instr) :
    startSound (State.powerOn serial x y q) := fun _ => ⟨rfl, rfl, rfl, rfl, rfl, rfl, rfl, rfl⟩

theorem bindingSound_powerOn (serial : BitVec 64) (x y : Bool) (q : List Instr) :
    bindingSound (State.powerOn serial x y q) := ⟨fun _ => rfl, fun _ => ⟨rfl, rfl⟩, fun _ => ⟨rfl, rfl, rfl, rfl⟩⟩

theorem controlExpiry_of_loading {s : State} (loading : s.svc.startState = .loading) :
    controlExpiry s = { s with odo := evaluateSpeed s.odo } := by
  unfold controlExpiry
  exact if_pos loading

theorem controlExpiry_of_done {s : State} (done : s.svc.startState = .done) :
    controlExpiry s = workHand (workCommand (workTarget (workDemand (workMode (workHold (workPreview
      (workLookahead { s with odo := evaluateSpeed s.odo }))))))) := by
  unfold controlExpiry
  exact if_neg (by simp [done])

/-- What the expiry makes of SRC is SRC's own judgement, with the lookahead point at hand. -/
theorem controlExpiry_src {s : State} (done : s.svc.startState = .done) :
    (controlExpiry s).src = (judgeAtExpiry (workLookahead { s with odo := evaluateSpeed s.odo })).src := by
  rw [controlExpiry_of_done done]; simp [workPreview]

/-- Settles O10: what START holds still, and the slots and sources of a station that binds none. -/
theorem stepKeepsStartAndBindingSound : Obligations.StepKeepsStartAndBindingSound := by
  refine keptByStep_of_move (fun s q sound => sound)
    (fun s x y _ => ⟨startSound_powerOn _ x y _, bindingSound_powerOn _ x y _⟩) ?_ ?_ ?_
  · rintro s t ⟨start, binding⟩
    refine ⟨?_, by simpa [bindingSound] using binding⟩
    unfold State.lapse
    split
    · exact start
    · exact startSound_congr start (by simp) rfl (fun none => by simp [none, growTimer])
        (fun none => by simp [none, growTimer]) rfl (fun none => by simp [none, growTimer]) id rfl rfl
  · rintro s ⟨start, binding⟩
    cases state : s.svc.startState with
    | loading => rw [controlExpiry_of_loading state]; exact ⟨start, binding⟩
    | done =>
      refine ⟨startSound_of_done (by simpa using state), ?_⟩
      have judged := bindingSound_judgeAtExpiry (s := workLookahead { s with odo := evaluateSpeed s.odo }) binding
      simpa [bindingSound, controlExpiry_src state] using judged
  · rintro s s' ⟨start, binding⟩ move
    exact ⟨move.keeps_startSound start, move.keeps_bindingSound start binding⟩

end Sys2Proof.Machine
end

section
/-! SUPPORT. The invariant of XCK: a judged pair, a change of binding and the choice of the mode keep counter, latch and
mode in step. -/

namespace Sys2Proof.Machine

/-! ## A step that changed no binding left both slots as full or as empty as they were -/

/-- From slots `x`, the rules came to `y`: where `y` records no change, there was none before, and each slot is bound as
before. -/
def RecordsChanges (x y : Slots) : Prop :=
  y.changed = false → x.changed = false ∧ y.p.isSome = x.p.isSome ∧ y.s.isSome = x.s.isSome

theorem RecordsChanges.refl (x : Slots) : RecordsChanges x x := fun unchanged => ⟨unchanged, rfl, rfl⟩

theorem RecordsChanges.trans {x y z : Slots} (first : RecordsChanges x y) (second : RecordsChanges y z) :
    RecordsChanges x z := fun unchanged =>
  have ⟨before, p, s⟩ := second unchanged
  have ⟨atFirst, p', s'⟩ := first before
  ⟨atFirst, p.trans p', s.trans s'⟩

theorem RecordsChanges.of_changed {x y : Slots} (changed : y.changed = true) : RecordsChanges x y :=
  fun unchanged => nomatch changed.symm.trans unchanged

theorem recordsChanges_emptyP (x : Slots) : RecordsChanges x (emptyP x) := by
  intro unchanged
  simp only [emptyP, Bool.or_eq_false_iff] at unchanged
  exact ⟨unchanged.1, unchanged.2.symm, rfl⟩

theorem recordsChanges_emptyS (x : Slots) : RecordsChanges x (emptyS x) := by
  intro unchanged
  simp only [emptyS, Bool.or_eq_false_iff] at unchanged
  exact ⟨unchanged.1, rfl, unchanged.2.symm⟩

section
variable (g : Grounds) (x : Slots)

theorem recordsChanges_losePrimary : RecordsChanges x (losePrimary g x) := by
  unfold losePrimary
  split
  · split
    · exact .of_changed rfl
    · exact recordsChanges_emptyP x
  · exact .refl x

theorem recordsChanges_loseSecond : RecordsChanges x (loseSecond g x) := by
  unfold loseSecond
  split
  · exact recordsChanges_emptyS x
  · exact .refl x

theorem recordsChanges_raiseDesired : RecordsChanges x (raiseDesired g x) := by
  unfold raiseDesired
  split
  · exact .refl x
  · split
    · split
      · exact .refl x
      · split
        · split
          · exact .of_changed rfl
          · exact .refl x
        · exact .of_changed rfl
    · exact .refl x

theorem recordsChanges_promoteSecond : RecordsChanges x (promoteSecond g x) := by
  unfold promoteSecond
  split
  · exact .of_changed rfl
  · exact .refl x

theorem recordsChanges_fillSecond : RecordsChanges x (fillSecond g x) := by
  unfold fillSecond
  split
  · exact .refl x
  · split
    · exact .of_changed rfl
    · exact .refl x

theorem recordsChanges_fullEvaluation : RecordsChanges x (fullEvaluation g x) :=
  ((((recordsChanges_losePrimary g x).trans (recordsChanges_loseSecond g _)).trans
    (recordsChanges_raiseDesired g _)).trans (recordsChanges_promoteSecond g _)).trans (recordsChanges_fillSecond g _)

theorem recordsChanges_promotionCheck : RecordsChanges x (promotionCheck g x) := by
  have promoted := (recordsChanges_raiseDesired g x).trans (recordsChanges_promoteSecond g _)
  unfold promotionCheck
  dsimp only
  split
  · exact promoted.trans (recordsChanges_fillSecond g _)
  · exact promoted

theorem recordsChanges_reoffsetP (s : State) : RecordsChanges x (reoffsetP s x) := by
  unfold reoffsetP
  split
  · exact .refl x
  · next b bound =>
    split
    · exact .refl x
    · split
      · exact recordsChanges_emptyP x
      · exact fun unchanged => ⟨unchanged, by simp [bound], rfl⟩

theorem recordsChanges_reoffsetS (s : State) : RecordsChanges x (reoffsetS s x) := by
  unfold reoffsetS
  split
  · exact .refl x
  · next b bound =>
    split
    · exact .refl x
    · split
      · exact recordsChanges_emptyS x
      · exact fun unchanged => ⟨unchanged, rfl, by simp [bound]⟩

end

/-! ## The split through a step of SRC (R117) -/

/-- What `splitSound` says, of counter, latch, mode and slots. -/
def SplitHolds (counter : Nat) (latch : Bool) (mode : TiltMode) (slotP slotS : Option Source) : Prop :=
  counter ≤ 48 ∧ (latch = true → 1 ≤ counter ∧ mode ≠ .preview) ∧ (latch = false → counter < 24) ∧
    (slotP = none ∨ slotS = none → counter = 0 ∧ latch = false)

theorem splitSound_iff (s : State) : splitSound s ↔
    SplitHolds s.xck.splitCounter s.xck.splitLatch s.dmd.mode s.src.slotP s.src.slotS := Iff.rfl

theorem splitHolds_rest (mode : TiltMode) (slotP slotS : Option Source) : SplitHolds 0 false mode slotP slotS :=
  ⟨by decide, by simp, by simp, by simp⟩

theorem SplitHolds.congr_slots {counter : Nat} {latch : Bool} {mode : TiltMode} {p q p' q' : Option Source}
    (holds : SplitHolds counter latch mode p q) (sameP : p'.isSome = p.isSome) (sameS : q'.isSome = q.isSome) :
    SplitHolds counter latch mode p' q' := by
  obtain ⟨range, set, clear, rest⟩ := holds
  have sameEmpty {x y : Option Source} (same : y.isSome = x.isSome) (empty : y = none) : x = none := by
    simpa [empty] using same
  exact ⟨range, set, clear, fun empty => rest (empty.imp (sameEmpty sameP) (sameEmpty sameS))⟩

theorem resetSplit_xck (cause : SplitCause) (s : State) :
    (resetSplit cause s).xck = { s.xck with splitCounter := 0, splitLatch := false } := by
  unfold resetSplit
  dsimp only
  split <;> rfl

/-- A step of SRC keeps the split sound: it sets it back where a binding changed. -/
theorem splitSound_endStep {s v : State} {x : Slots} (sound : splitSound s) (xck : v.xck = s.xck) (dmd : v.dmd = s.dmd)
    (records : RecordsChanges (slotsOf s) x) (cause : SourceCause) (pBefore : Identity) :
    splitSound (endStep cause pBefore x v) := by
  rw [splitSound_iff] at sound ⊢
  obtain ⟨-, steps⟩ | ⟨unchanged, puts⟩ := endStep_cases cause pBefore x v
  · rw [steps]
    simp only [raiseSourceChange, State.raise_xck, resetSplit_xck]
    exact splitHolds_rest _ _ _
  · rw [puts]
    simp only [putSlots_frame, xck, dmd]
    obtain ⟨-, p, second⟩ := records unchanged
    exact sound.congr_slots p second

section
variable {s : State} (sound : splitSound s)
include sound

theorem splitSound_judgeAtFrame : splitSound (judgeAtFrame s) := by
  obtain ⟨-, -, full⟩ | ⟨-, same⟩ := judgeAtFrame_cases s
  · rw [full]
    exact splitSound_endStep sound (by rfl) (by rfl) (recordsChanges_fullEvaluation _ _) _ _
  · exact same ▸ sound

theorem splitSound_judgeAtExpiry : splitSound (judgeAtExpiry s) := by
  obtain ⟨-, -, full⟩ | ⟨-, -, promotion⟩ | ⟨-, same⟩ := judgeAtExpiry_cases s
  · rw [full]
    exact splitSound_endStep sound (by rfl) (by rfl) (recordsChanges_fullEvaluation _ _) _ _
  · rw [promotion]
    exact splitSound_endStep sound (by rfl) (by rfl) (recordsChanges_promotionCheck _ _) _ _
  · exact same ▸ sound

theorem splitSound_sourceReversal : splitSound (sourceReversal s) := by
  have emptied := (recordsChanges_emptyP (slotsOf s)).trans (recordsChanges_emptyS _)
  unfold sourceReversal
  dsimp only
  split
  · exact splitSound_endStep sound (by rfl) (by rfl) (emptied.trans (recordsChanges_fullEvaluation _ _)) _ _
  · exact splitSound_endStep sound (by rfl) (by rfl) emptied _ _

theorem splitSound_sourceFormed : splitSound (sourceFormed s) := by
  unfold sourceFormed
  exact splitSound_endStep sound (by rfl) (by rfl) (((recordsChanges_reoffsetP (slotsOf s) s).trans
    (recordsChanges_reoffsetS _ s)).trans (recordsChanges_fullEvaluation _ _)) _ _

theorem splitSound_sourceNotFormed : splitSound (sourceNotFormed s) := by
  unfold sourceNotFormed
  exact splitSound_endStep sound (by rfl) (by rfl) ((recordsChanges_emptyP (slotsOf s)).trans (recordsChanges_emptyS _)) _ _

end

/-! ## The split through a judged pair (R114, R115, R134) -/

theorem splitHold_not_preview (s : State) : (splitHold s).dmd.mode ≠ .preview := by
  rw [splitHold_mode]
  split
  · exact fun impossible => nomatch impossible
  · next other => exact other

/-- The judgement of the latch settles a counter within its range, both slots being bound. -/
theorem splitSound_judgeSplit {s : State} (bound : s.src.slotP ≠ none ∧ s.src.slotS ≠ none)
    (range : s.xck.splitCounter ≤ 48) (set : s.xck.splitLatch = true → s.dmd.mode ≠ .preview) :
    splitSound (judgeSplit s) := by
  have both : ¬(s.src.slotP = none ∨ s.src.slotS = none) := by simp [bound]
  obtain ⟨-, high, sets⟩ | ⟨-, zero, clears⟩ | ⟨notSet, notClear, stays⟩ := judgeSplit_cases s
  · rw [sets]
    refine ⟨by simpa using range, fun _ => ⟨by simp; omega, splitHold_not_preview _⟩, by simp, ?_⟩
    simp [bound]
  · rw [clears]
    refine ⟨by simpa using range, by simp, by simp [zero], by simp [zero]⟩
  · rw [stays]
    refine ⟨range, fun latched => ⟨?_, set latched⟩, fun clear => ?_, fun empty => absurd empty both⟩
    · by_contra low
      exact notClear ⟨latched, by omega⟩
    · by_contra high
      exact notSet ⟨clear, by omega⟩

theorem splitSound_crossCheck {s : State} (k : Slot) (e : PreviewEntry) (sound : splitSound s) :
    splitSound (crossCheck k e s) := by
  obtain same | ⟨boundP, boundS, unmatched | ⟨m, pair⟩⟩ := crossCheck_cases k e s
  · exact same.symm ▸ sound
  · exact unmatched.symm ▸ sound
  · obtain ⟨range, set, -, -⟩ := sound
    rw [pair, judgePair_eq]
    refine splitSound_judgeSplit ⟨Option.isSome_iff_ne_none.1 boundP, Option.isSome_iff_ne_none.1 boundS⟩ ?_
      fun latched => (set latched).2
    simp only [countPair]
    split <;> omega

theorem splitSound_takeSample {s : State} (t : TrackSample) (age : Nat) (sound : splitSound s) :
    splitSound (takeSample t age s) := by
  obtain ⟨v, src, xck, dmd, same | ⟨k, e, checks⟩⟩ := takeSample_crossCheck t age s
  all_goals
    have left : splitSound v := by simpa only [splitSound, src, xck, dmd] using sound
  · exact same ▸ left
  · exact checks ▸ splitSound_crossCheck k e left

/-! ## The step -/

theorem Move.keeps_splitSound {s s' : State} (sound : splitSound s) (move : Move s s') : splitSound s' := by
  cases move with
  | judges => exact splitSound_judgeAtFrame sound
  | forms =>
    simp only [formTrain]
    exact splitSound_sourceFormed (s := raiseRollDone _) sound
  | formsWithout outcome =>
    simp only [formWithout]
    exact splitSound_sourceNotFormed (s := raiseRollDone _) sound
  | takesSample t age => exact splitSound_takeSample t age sound
  | resetsSplit cause =>
    rw [splitSound_iff, resetSplit_xck]
    exact splitHolds_rest _ _ _
  | reverses => exact splitSound_sourceReversal sound
  | restarts => exact splitHolds_rest _ _ _
  | _ => simpa [splitSound, changeRawSupply, changeRawInhibit, demandReversal] using sound

theorem takeMode_mode (chosen : TiltMode × ModeCause) (s : State) : (takeMode chosen s).dmd.mode = chosen.1 := by
  unfold takeMode
  split
  · next same => exact same.symm
  · rfl

/-- PREVIEW is chosen with the latch clear alone (R131). -/
theorem chosenMode_not_preview_of_latch {s : State} (latched : s.xck.splitLatch = true) :
    (chosenMode s).1 ≠ .preview := by
  unfold chosenMode
  split
  · exact fun impossible => nomatch impossible
  · split
    · exact fun impossible => nomatch impossible
    · simp only [latched, Bool.not_true, Bool.and_false, Bool.false_and, Bool.false_eq_true, if_false]
      split
      · exact fun impossible => nomatch impossible
      · split <;> exact fun impossible => nomatch impossible

/-- The mode that an expiry chooses is that of its sixth stage. -/
theorem controlExpiry_mode {s : State} (done : s.svc.startState = .done) :
    (controlExpiry s).dmd.mode = (workMode (workHold (workPreview
      (workLookahead { s with odo := evaluateSpeed s.odo })))).dmd.mode := by
  rw [controlExpiry_of_done done]; simp

theorem controlExpiry_xck {s : State} (done : s.svc.startState = .done) :
    (controlExpiry s).xck = (judgeAtExpiry (workLookahead { s with odo := evaluateSpeed s.odo })).xck := by
  rw [controlExpiry_of_done done]; simp [workPreview]

theorem splitSound_controlExpiry {s : State} (sound : splitSound s) : splitSound (controlExpiry s) := by
  cases state : s.svc.startState with
  | loading => rw [controlExpiry_of_loading state]; exact sound
  | done =>
    obtain ⟨range, set, clear, rest⟩ :=
      splitSound_judgeAtExpiry (s := workLookahead { s with odo := evaluateSpeed s.odo }) sound
    rw [splitSound_iff, controlExpiry_xck state, controlExpiry_src state, controlExpiry_mode state]
    refine ⟨range, fun latched => ⟨(set latched).1, ?_⟩, clear, rest⟩
    unfold workMode
    dsimp only
    rw [takeMode_mode]
    exact chosenMode_not_preview_of_latch (by simpa [workPreview] using latched)

/-- Settles O11: a judged pair, a step of SRC and the choice of the mode. -/
theorem stepKeepsSplitSound : Obligations.StepKeepsSplitSound := by
  refine keptByStep_of_move (fun s q sound => sound) (fun s x y _ => splitHolds_rest _ _ _) ?_
    (fun s sound => splitSound_controlExpiry sound) fun s s' sound move => move.keeps_splitSound sound
  intro s t sound
  simpa [splitSound] using sound

end Sys2Proof.Machine
end

section
/-! SUPPORT. The invariant of the record in use and of the angle command: what a load brings into use, and how an expiry
moves the command toward its target. -/

namespace Sys2Proof.Machine

/-! ## The record in use (R168, R169) -/

theorem recordSound_default {serial : BitVec 64} (named : serialIdentity serial ≠ 0) :
    recordSound (defaultRecord serial) := by
  refine ⟨named, ?_⟩
  simp [defaultRecord]

theorem recordSound_clamp {c : ConfigRecord} (named : c.identity ≠ 0) : recordSound (clampRecord c) := by
  refine ⟨named, ?_⟩
  simp only [clampRecord, clampedCarLength, clampNat]
  refine ⟨by omega, by omega, by omega, by omega, by omega, ?_, by omega, by omega, by omega, by omega, by omega,
    by omega, by omega, by omega, by omega, by omega⟩
  intro u unit
  obtain ⟨n, -, rfl⟩ := Option.map_eq_some_iff.1 unit
  rw [clampNat]
  omega

theorem identity_of_judgeRecord {r : RecordBytes} (good : judgeRecord r = none) : r.identity ≠ 0 := by
  unfold judgeRecord at good
  split at good
  · cases good
  · split at good
    · cases good
    · assumption

/-- A load ends with a record within its ranges, whatever was read. -/
theorem recordSound_of_isOutcome {serial : BitVec 64} {o : LoadOutcome} (named : serialIdentity serial ≠ 0)
    (ends : isOutcome serial o) : recordSound o.config := by
  obtain ⟨r, rfl⟩ | ⟨fault, rfl⟩ := ends
  · unfold readOutcome
    split
    · exact recordSound_default named
    · next good => exact recordSound_clamp (c := recordAsRead r) (identity_of_judgeRecord good)
  · exact recordSound_default named

theorem handRecord_svc (o : LoadOutcome) (s : State) :
    (handRecord o s).svc.config = o.config ∧ (handRecord o s).svc.unconfigured = o.fault.isSome ∧
    (handRecord o s).svc.clamped = o.clamped ∧ (handRecord o s).svc.loadFault = o.fault := by
  simp [handRecord]

theorem Move.keeps_configSound {s s' : State} (sound : configSound s) (move : Move s s') : configSound s' := by
  cases move with
  | handsRecord loading ends =>
    obtain ⟨config, unconfigured, -, fault⟩ := handRecord_svc _ s
    refine ⟨by simpa using sound.1, ?_, ?_⟩
    · rw [config]; exact recordSound_of_isOutcome sound.1 ends
    · rw [unconfigured, fault]
  | restarts => exact sound
  | _ => simpa [configSound, changeRawSupply, changeRawInhibit, demandReversal] using sound

/-! ## The command (R139 to R143) -/

/-- A rate step ends between the command and its target. -/
theorem within_stepToward {bound step : Nat} {command target : Int} (old : within bound command)
    (new : within bound target) : within bound (stepToward step command target) := by
  unfold stepToward
  simp only [within] at *
  split
  · exact new
  · split <;> omega

theorem natAbs_stepToward_sub_le (step : Nat) (command target : Int) :
    (stepToward step command target - command).natAbs ≤ step := by
  unfold stepToward
  split
  · assumption
  · split <;> omega

theorem within_modeTarget (s : State) : within s.svc.config.angleLimit (modeTarget s) := by
  unfold modeTarget
  split
  · exact within_limit _ _
  · exact within_limit _ _
  · exact within_limit _ _
  all_goals simp [within]

/-- The state that the first six stages of an expiry after START leave: the mode is chosen. -/
def modeStage (s : State) : State :=
  workMode (workHold (workPreview (workLookahead { s with odo := evaluateSpeed s.odo })))

theorem controlExpiry_eq {s : State} (done : s.svc.startState = .done) :
    controlExpiry s = workHand (workCommand (workTarget (workDemand (modeStage s)))) := controlExpiry_of_done done

/-- What the first six stages leave as it was. -/
@[simp] theorem modeStage_frame (s : State) :
    (modeStage s).now = s.now ∧ (modeStage s).sns = s.sns ∧ (modeStage s).tsu = s.tsu ∧
    (modeStage s).portA = s.portA ∧ (modeStage s).portB = s.portB ∧ (modeStage s).rcl = s.rcl ∧
    (modeStage s).odo = evaluateSpeed s.odo ∧ (modeStage s).dmd.command = s.dmd.command ∧
    (modeStage s).dmd.target = s.dmd.target ∧ (modeStage s).dmd.lastDemand = s.dmd.lastDemand ∧
    (modeStage s).dmd.localInhibit = s.dmd.localInhibit ∧ (modeStage s).act = s.act ∧ (modeStage s).cso = s.cso ∧
    (modeStage s).svc.startState = s.svc.startState ∧ (modeStage s).svc.config = s.svc.config ∧
    (modeStage s).svc.unconfigured = s.svc.unconfigured ∧
    (modeStage s).svc.factorySerial = s.svc.factorySerial ∧
    (modeStage s).svc.inhibitLatch = s.svc.inhibitLatch ∧ (modeStage s).svc.supplyLatch = s.svc.supplyLatch ∧
    (modeStage s).svc.malformed = s.svc.malformed ∧ (modeStage s).pending = s.pending := by
  simp [modeStage]

theorem controlExpiry_target {s : State} (done : s.svc.startState = .done) :
    (controlExpiry s).dmd.target = modeTarget (workDemand (modeStage s)) := by
  rw [controlExpiry_eq done]; simp [workTarget]

theorem controlExpiry_command {s : State} (done : s.svc.startState = .done) :
    (controlExpiry s).dmd.command = stepToward (rateStep s.svc.config) s.dmd.command (controlExpiry s).dmd.target := by
  rw [controlExpiry_target done, controlExpiry_eq done]; simp [workCommand, workTarget]

theorem Move.keeps_commandSound {s s' : State} (sound : commandSound s) (move : Move s s') : commandSound s' := by
  cases move with
  | handsRecord loading =>
    have zero := sound.2.2 loading
    simp [commandSound, within, zero]
  | endsStart => exact ⟨sound.1, sound.2.1, fun loading => nomatch loading⟩
  | restarts allowed =>
    have standing := (startSound_restart allowed) rfl
    exact ⟨sound.1, by simp [restartUnits, beginLoad, restartService, restartControl, restartPreview, restartRollCall,
      restartSensing, disableDrive, dmdPowerOn, within], fun _ => ⟨standing.2.2.2.2.2.2.1, rfl⟩⟩
  | _ => simpa [commandSound, changeRawSupply, changeRawInhibit, demandReversal] using sound

theorem commandSound_controlExpiry {s : State} (sound : commandSound s) : commandSound (controlExpiry s) := by
  cases state : s.svc.startState with
  | loading => rw [controlExpiry_of_loading state]; exact sound
  | done =>
    have target : within s.svc.config.angleLimit (controlExpiry s).dmd.target := by
      rw [controlExpiry_target state]
      simpa using within_modeTarget (workDemand (modeStage s))
    refine ⟨?_, by simpa using target, by simp [state]⟩
    rw [controlExpiry_command state]
    simpa using within_stepToward sound.1 target

/-! ## The step -/

theorem configSound_powerOn {serial : BitVec 64} (named : serialIdentity serial ≠ 0) (x y : Bool) (q : List Instr) :
    configSound (State.powerOn serial x y q) := ⟨named, recordSound_default named, rfl⟩

theorem commandSound_powerOn (serial : BitVec 64) (x y : Bool) (q : List Instr) :
    commandSound (State.powerOn serial x y q) := by
  simp [commandSound, State.powerOn, dmdPowerOn, within]

/-- Settles O12: the outcome of a load, and the rate step between two values within the limit. -/
theorem stepKeepsConfigAndCommandSound : Obligations.StepKeepsConfigAndCommandSound := by
  refine keptByStep_of_move (fun s q sound => sound)
    (fun s x y sound => ⟨configSound_powerOn sound.1.1 x y _, commandSound_powerOn _ x y _⟩) ?_ ?_ ?_
  · rintro s t ⟨config, command⟩
    exact ⟨by simpa [configSound] using config, by simpa [commandSound] using command⟩
  · rintro s ⟨config, command⟩
    exact ⟨by simpa [configSound] using config, commandSound_controlExpiry command⟩
  · rintro s s' ⟨config, command⟩ move
    exact ⟨move.keeps_configSound config, move.keeps_commandSound command⟩

end Sys2Proof.Machine
end

section
/-! SUPPORT. ACT after each operation that touches it, as one equation each; and the invariant of the actuator. -/

namespace Sys2Proof.Machine

/-! ## ACT after each operation -/

/-- ACT with the drive off and the monitor set back (R149). -/
def dropDrive (a : Act) : Act := { a with enable := false, duty := 0, trackingCount := 0, blanking := 0 }

@[simp] theorem disableDrive_act (s : State) : (disableDrive s).act = dropDrive s.act := rfl

theorem failActuator_act (cause : FailureCause) (s : State) :
    (failActuator cause s).act = latchFailure cause s.act := by rw [failActuator_eq]

/-- The judged expiries in a row with a large error, this one among them (R153). -/
def largeErrors (e : Int) (a : Act) : Nat := if 1500 < e.natAbs then a.trackingCount + 1 else 0

/-- ACT after a hand with a mode and a tracking error (R147, R148, R152, R153). -/
def handAct (mode : TiltMode) (e : Int) (a : Act) : Act :=
  if enableAfter mode a.supplyOk = false then dropDrive a
  else if a.enable = false then
    { a with enable := true, duty := driveDuty a.loopGain e, blanking := 50, trackingCount := 0 }
  else if 1 < a.blanking then
    { a with duty := driveDuty a.loopGain e, blanking := a.blanking - 1, trackingCount := 0 }
  else if 100 ≤ largeErrors e a then
    latchFailure .tracking
      { a with duty := driveDuty a.loopGain e, blanking := 0, trackingCount := largeErrors e a }
  else { a with duty := driveDuty a.loopGain e, blanking := 0, trackingCount := largeErrors e a }

/-- The hand fails the car: the enable line stays on, the blanking is over, and the errors in a row are 100 (R153). -/
def handFails (mode : TiltMode) (e : Int) (a : Act) : Bool :=
  enableAfter mode a.supplyOk && a.enable && decide (a.blanking ≤ 1) && decide (100 ≤ largeErrors e a)

theorem judgeTracking_eq (s : State) :
    judgeTracking s =
      if 100 ≤ largeErrors (trackingError s) s.act then
        failActuator .tracking { s with act.trackingCount := largeErrors (trackingError s) s.act }
      else { s with act.trackingCount := largeErrors (trackingError s) s.act } := by
  unfold judgeTracking largeErrors
  by_cases small : (trackingError s).natAbs ≤ 1500
  · simp [small, Nat.not_lt.2 small]
  · simp [small, Nat.not_le.1 small]

/-- The hand as one equation: ACT, and ACTUATOR-FAULT where the monitor fails the car. -/
theorem handCommand_eq (s : State) :
    handCommand s =
      { (if handFails s.dmd.mode (trackingError s) s.act then
          s.raise (.actuatorFault .tracking s.act.failedLatch) else s) with
        act := handAct s.dmd.mode (trackingError s) s.act } := by
  unfold handCommand handAct handFails
  dsimp only
  cases on : enableAfter s.dmd.mode s.act.supplyOk
  · rfl
  · cases enabled : s.act.enable
    · rfl
    · unfold monitorTracking
      by_cases blank : s.act.blanking ≤ 1
      · rw [judgeTracking_eq]
        have error : trackingError { s with
          act := { s.act with enable := true, duty := driveDuty s.act.loopGain (trackingError s), blanking := 0 } } =
            trackingError s := rfl
        by_cases fails : 100 ≤ largeErrors (trackingError s) s.act
        · have fails' : 100 ≤ largeErrors (trackingError s) { s.act with
            enable := true, duty := driveDuty s.act.loopGain (trackingError s), blanking := 0 } := fails
          simp only [blank, if_true, error, if_pos fails', failActuator_eq, fails, decide_true, Bool.and_self,
            Nat.not_lt.2 blank, if_false, Bool.true_eq_false]
          rfl
        · have fails' : ¬100 ≤ largeErrors (trackingError s) { s.act with
            enable := true, duty := driveDuty s.act.loopGain (trackingError s), blanking := 0 } := fails
          simp only [blank, if_true, error, if_neg fails', fails, decide_false, Bool.and_false,
            Nat.not_lt.2 blank, if_false, Bool.true_eq_false]
          rfl
      · simp only [blank, if_false, Nat.lt_of_not_le blank, if_true, decide_false, Bool.and_false, Bool.false_and,
          Bool.true_eq_false]
        rfl

theorem controlExpiry_act {s : State} (done : s.svc.startState = .done) :
    (controlExpiry s).act =
      handAct (controlExpiry s).dmd.mode ((controlExpiry s).dmd.command - s.sns.lastBody) s.act := by
  rw [controlExpiry_eq done]
  simp only [workHand_frame, workCommand_frame, workTarget_frame]
  rw [show ∀ v, (workHand v).act = (handCommand v).act from fun _ => rfl, handCommand_eq]
  simp [trackingError]

/-- ACT after a debounced change of SUPPLY-OK in a mode (R150, R151). -/
def supplyAct (tilting : Bool) (a : Act) : Act :=
  if a.rawSupply then { a with supplyOk := a.rawSupply, debounceTime := 0 }
  else if tilting then latchFailure .supply (dropDrive { a with supplyOk := a.rawSupply, debounceTime := 0 })
  else dropDrive { a with supplyOk := a.rawSupply, debounceTime := 0 }

theorem supplyChanges_act (s : State) : (supplyChanges s).act = supplyAct (isTilting s.dmd.mode) s.act := by
  unfold supplyChanges supplyAct
  dsimp only
  rw [(handCondition_frame _ _).2.2.2.2.2.2.2.2.2.2.2.1]
  split
  · rfl
  · split
    · rw [failActuator_act]; rfl
    · rfl

/-! ## The drive (R149) -/

/-- What `driveSound` says, of the mode and ACT. -/
def DriveHolds (mode : TiltMode) (a : Act) : Prop :=
  within 1000 a.duty ∧ (a.enable = false → a.duty = 0) ∧
    (mode = .start ∨ mode = .failed ∨ a.supplyOk = false ∨ a.failedLatch = true → a.enable = false)

theorem driveSound_iff (s : State) : driveSound s ↔ DriveHolds s.dmd.mode s.act := Iff.rfl

theorem DriveHolds.of_off {mode : TiltMode} {a : Act} (off : a.enable = false) (zero : a.duty = 0) :
    DriveHolds mode a := ⟨by simp [zero, within], fun _ => zero, fun _ => off⟩

theorem driveHolds_dropDrive (mode : TiltMode) (a : Act) : DriveHolds mode (dropDrive a) := .of_off rfl rfl

theorem DriveHolds.latchFailure {mode : TiltMode} {a : Act} (cause : FailureCause) (holds : DriveHolds mode a) :
    DriveHolds mode (latchFailure cause a) := by
  unfold Machine.latchFailure
  split
  · exact holds
  · exact .of_off rfl rfl

/-- A clear latch is set by a failure, which takes the drive off whatever it was. -/
theorem driveHolds_latchFailure_of_clear {mode : TiltMode} {a : Act} (cause : FailureCause)
    (clear : a.failedLatch = false) : DriveHolds mode (latchFailure cause a) := by
  unfold latchFailure
  rw [if_neg (by simp [clear])]
  exact .of_off rfl rfl

theorem DriveHolds.congr_mode {before after : TiltMode} {a : Act}
    (mode : after = before ∨ (after ≠ .start ∧ after ≠ .failed)) (holds : DriveHolds before a) :
    DriveHolds after a := by
  obtain rfl | ⟨notStart, notFailed⟩ := mode
  · exact holds
  · obtain ⟨duty, zero, off⟩ := holds
    refine ⟨duty, zero, fun must => off ?_⟩
    obtain start | failed | low := must
    · exact absurd start notStart
    · exact absurd failed notFailed
    · exact .inr (.inr low)

theorem enableAfter_iff (mode : TiltMode) (supplyOk : Bool) :
    enableAfter mode supplyOk = true ↔ supplyOk = true ∧ mode ≠ .failed ∧ mode ≠ .start := by
  cases mode <;> simp [enableAfter]

theorem within_driveDuty (gain : Nat) (e : Int) : within 1000 (driveDuty gain e) := within_limit _ _

/-- The hand keeps the drive off where it must be off, with FAILED the mode of a set latch. -/
theorem driveHolds_handAct {mode : TiltMode} (e : Int) {a : Act} (failed : a.failedLatch = true → mode = .failed) :
    DriveHolds mode (handAct mode e a) := by
  unfold handAct
  split
  · exact driveHolds_dropDrive mode a
  · next on =>
    obtain ⟨supply, notFailed, notStart⟩ := (enableAfter_iff mode a.supplyOk).1 (by simpa using on)
    have clear : a.failedLatch = false := by
      cases latch : a.failedLatch with
      | false => rfl
      | true => exact absurd (failed latch) notFailed
    have drives {b : Act} (duty : b.duty = driveDuty a.loopGain e) (enable : b.enable = true)
        (sameSupply : b.supplyOk = true) (sameLatch : b.failedLatch = false) : DriveHolds mode b :=
      ⟨duty ▸ within_driveDuty _ _, by simp [enable], by simp [notStart, notFailed, sameSupply, sameLatch]⟩
    split
    · exact drives rfl rfl supply clear
    · next enabled =>
      have enable : a.enable = true := by simpa using enabled
      split
      · exact drives rfl enable supply clear
      · split
        · exact driveHolds_latchFailure_of_clear .tracking clear
        · exact drives rfl enable supply clear

theorem modeStage_mode_of_latch {s : State} (latched : s.act.failedLatch = true) : (modeStage s).dmd.mode = .failed := by
  unfold modeStage workMode
  dsimp only
  rw [takeMode_mode]
  unfold chosenMode
  rw [if_pos (by simpa using latched)]

theorem driveSound_controlExpiry {s : State} (sound : driveSound s) : driveSound (controlExpiry s) := by
  cases state : s.svc.startState with
  | loading => rw [controlExpiry_of_loading state]; exact sound
  | done =>
    rw [driveSound_iff, controlExpiry_act state]
    exact driveHolds_handAct _ fun latched => (controlExpiry_mode state).trans (modeStage_mode_of_latch latched)

theorem takeSample_mode_drives (t : TrackSample) (age : Nat) (s : State) :
    (takeSample t age s).dmd.mode = s.dmd.mode ∨
      ((takeSample t age s).dmd.mode ≠ .start ∧ (takeSample t age s).dmd.mode ≠ .failed) := by
  obtain same | ⟨-, hold⟩ := takeSample_mode t age s
  · exact .inl same
  · exact .inr ⟨by simp [hold], by simp [hold]⟩

theorem takeBodyFrame_act (v : Verdict) (s : State) :
    (takeBodyFrame v s).act = s.act ∨ (takeBodyFrame v s).act = latchFailure .sensor s.act := by
  have counts (good : Bool) (w : State) :
      (countBodyFrame good w).act = w.act ∨ (countBodyFrame good w).act = latchFailure .sensor w.act := by
    unfold countBodyFrame
    dsimp only
    split
    · exact .inr (failActuator_act _ _)
    · exact .inl rfl
    · exact .inl rfl
  unfold takeBodyFrame
  split <;> exact counts _ _

theorem takeLoadOutcome_act (fault : Option LoadFault) (s : State) :
    (takeLoadOutcome fault s).act =
      if fault.isSome then dropDrive { s.act with failedLatch := true, failureCause := some .config }
      else if s.act.failureCause = some .config then
        (if s.sns.bodyHealth.fault then { s.act with failureCause := some .sensor }
        else { s.act with failedLatch := false, failureCause := none })
      else s.act := by
  unfold takeLoadOutcome
  cases fault with
  | some f => rfl
  | none =>
    simp only [Option.isSome_none, Bool.false_eq_true, if_false]
    split
    · split <;> rfl
    · rfl

theorem handRecord_act (o : LoadOutcome) (s : State) :
    (handRecord o s).act = (takeLoadOutcome o.fault { s with act.loopGain := o.config.loopGain }).act := by
  rw [takeLoadOutcome_act, handRecord, takeLoadOutcome_act]

/-! ## The FAILED latch (R154 to R156, R168) -/

/-- What `failureSound` says, of ACT, the fault of the body-angle unit and the unconfigured flag. -/
def FailureHolds (bodyFault unconfigured : Bool) (a : Act) : Prop :=
  a.failedLatch = a.failureCause.isSome ∧ (bodyFault = true → a.failedLatch = true) ∧
    (unconfigured = true ↔ a.failureCause = some .config)

theorem failureSound_iff (s : State) :
    failureSound s ↔ FailureHolds s.sns.bodyHealth.fault s.svc.unconfigured s.act := Iff.rfl

theorem FailureHolds.congr {bodyFault unconfigured : Bool} {a b : Act} (latch : b.failedLatch = a.failedLatch)
    (cause : b.failureCause = a.failureCause) (holds : FailureHolds bodyFault unconfigured a) :
    FailureHolds bodyFault unconfigured b := by
  simpa only [FailureHolds, latch, cause] using holds

/-- A cause other than CONFIG keeps the latch sound, and serves a fault of the body-angle unit. -/
theorem FailureHolds.latchFailure {bodyFault after unconfigured : Bool} {a : Act} {cause : FailureCause}
    (other : cause ≠ .config) (holds : FailureHolds bodyFault unconfigured a) :
    FailureHolds after unconfigured (latchFailure cause a) := by
  obtain ⟨latch, -, config⟩ := holds
  unfold Machine.latchFailure
  split
  · next set => exact ⟨latch, fun _ => set, config⟩
  · next clear =>
    have noCause : a.failureCause = none := by
      simpa [Option.isSome_eq_false_iff] using latch.symm.trans (Bool.eq_false_of_not_eq_true clear)
    exact ⟨rfl, fun _ => rfl, by simpa [noCause, other] using config⟩

theorem FailureHolds.handAct {bodyFault unconfigured : Bool} {a : Act} (mode : TiltMode) (e : Int)
    (holds : FailureHolds bodyFault unconfigured a) : FailureHolds bodyFault unconfigured (handAct mode e a) := by
  unfold Machine.handAct
  split
  · exact holds.congr rfl rfl
  · split
    · exact holds.congr rfl rfl
    · split
      · exact holds.congr rfl rfl
      · split
        · exact FailureHolds.latchFailure (by simp) (holds.congr rfl rfl)
        · exact holds.congr rfl rfl

theorem healthAfter_fault_of_not_set {good : Bool} {h : SensorHealth} (notSet : faultChange h (healthAfter good h) ≠ some .set) :
    (healthAfter good h).fault = true → h.fault = true := by
  intro fault
  cases before : h.fault with
  | true => rfl
  | false => simp [faultChange, before, fault] at notSet

theorem failureSound_countBodyFrame {s : State} (good : Bool) (sound : failureSound s) :
    failureSound (countBodyFrame good s) := by
  rw [failureSound_iff] at sound ⊢
  rw [countBodyFrame_sns]
  simp only [countBodyFrame_frame]
  have stays (notSet : faultChange s.sns.bodyHealth (healthAfter good s.sns.bodyHealth) ≠ some .set) :
      FailureHolds (healthAfter good s.sns.bodyHealth).fault s.svc.unconfigured s.act :=
    ⟨sound.1, fun fault => sound.2.1 (healthAfter_fault_of_not_set notSet fault), sound.2.2⟩
  unfold countBodyFrame
  dsimp only
  split
  · rw [failActuator_act]
    exact sound.latchFailure (by simp)
  · next clears => exact stays (by simp [clears])
  · next nothing => exact stays (by simp [nothing])

theorem failureSound_takeBodyFrame {s : State} (v : Verdict) (sound : failureSound s) :
    failureSound (takeBodyFrame v s) := by
  unfold takeBodyFrame
  split
  · exact failureSound_countBodyFrame (s := { s with sns.lastBody := _ }) _ sound
  · exact failureSound_countBodyFrame (s := { s with sns.counters.bodyOutOfRange := _ }) _ sound
  · exact failureSound_countBodyFrame (s := { s with sns.counters.body := _ }) _ sound

theorem failureSound_handRecord {s : State} (o : LoadOutcome) (sound : failureSound s) : failureSound (handRecord o s) := by
  obtain ⟨latch, body, config⟩ := sound
  rw [failureSound_iff, (handRecord_svc o s).2.1, handRecord_act, takeLoadOutcome_act]
  simp only [handRecord_frame]
  cases fault : o.fault with
  | some f => exact ⟨rfl, fun _ => rfl, by simp [dropDrive]⟩
  | none =>
    simp only [Option.isSome_none, Bool.false_eq_true, if_false]
    split
    · next isConfig =>
      split
      · exact ⟨latch.trans (by simp [isConfig]), fun _ => latch.trans (by simp [isConfig]), by simp⟩
      · next noFault => exact ⟨rfl, fun fault => absurd fault noFault, by simp⟩
    · next other => exact ⟨latch, body, by simpa using other⟩

/-- RESET_FAILED releases a latch whose cause has gone (R155). -/
theorem failureSound_clearFailed {s : State} (sound : failureSound s) (latched : s.act.failedLatch = true)
    (allowed : resetFailedRefusal s = none) : failureSound (clearFailed s) := by
  have gone : s.act.failureCause ≠ some .config ∧ s.sns.bodyHealth.fault = false := by
    simp only [resetFailedRefusal, latched, Bool.not_true, Bool.false_eq_true, if_false] at allowed
    split at allowed
    · cases allowed
    · split at allowed
      · cases allowed
      · next other =>
        split at allowed
        · cases allowed
        · split at allowed
          · cases allowed
          · next noFault => exact ⟨other, by simpa using noFault⟩
  rw [failureSound_iff]
  refine ⟨rfl, fun fault => ?_, ?_⟩
  · exact nomatch gone.2.symm.trans fault
  · have configured := (not_congr sound.2.2).2 gone.1
    simpa [clearFailed] using configured

/-! ## The moves and the step -/

theorem Move.keeps_driveSound {s s' : State} (sound : driveSound s) (move : Move s s') : driveSound s' := by
  rw [driveSound_iff] at sound ⊢
  cases move with
  | takesSample t age =>
    simp only [takeSample_frame]
    exact sound.congr_mode (takeSample_mode_drives t age s)
  | takesBody v =>
    simp only [takeBodyFrame_frame]
    obtain same | failed := takeBodyFrame_act v s
    · exact same.symm ▸ sound
    · exact failed.symm ▸ sound.latchFailure _
  | changesSupply =>
    rw [supplyChanges_act]
    simp only [supplyChanges_frame]
    unfold supplyAct
    split
    · next rises =>
      refine ⟨sound.1, sound.2.1, fun must => sound.2.2 ?_⟩
      obtain start | failed | low | latched := must
      · exact .inl start
      · exact .inr (.inl failed)
      · exact nomatch rises.symm.trans low
      · exact .inr (.inr (.inr latched))
    · split
      · exact (driveHolds_dropDrive _ _).latchFailure _
      · exact driveHolds_dropDrive _ _
  | handsRecord =>
    rw [handRecord_act, takeLoadOutcome_act]
    simp only [handRecord_frame]
    split
    · exact driveHolds_dropDrive _ _
    · split
      · next isConfig =>
        obtain ⟨duty, zero, off⟩ := sound
        split
        · exact ⟨duty, zero, off⟩
        · exact ⟨duty, zero, fun must => off (by simpa using Or.imp_right (Or.imp_right Or.inl) (by simpa using must))⟩
      · exact sound
  | clearsFailed =>
    obtain ⟨duty, zero, off⟩ := sound
    exact ⟨duty, zero, fun must => off (by simpa using Or.imp_right (Or.imp_right Or.inl) (by simpa [clearFailed] using must))⟩
  | restarts => exact driveHolds_dropDrive _ _
  | _ => simpa [DriveHolds, changeRawSupply, changeRawInhibit, demandReversal] using sound

theorem Move.keeps_failureSound {s s' : State} (sound : failureSound s) (move : Move s s') : failureSound s' := by
  cases move with
  | takesBody v => exact failureSound_takeBodyFrame v sound
  | changesSupply =>
    rw [failureSound_iff, supplyChanges_act]
    simp only [supplyChanges_frame]
    have holds := (failureSound_iff s).1 sound
    unfold supplyAct
    split
    · exact holds.congr rfl rfl
    · split
      · exact FailureHolds.latchFailure (by simp) (holds.congr rfl rfl)
      · exact holds.congr rfl rfl
  | handsRecord => exact failureSound_handRecord _ sound
  | clearsFailed latched allowed => exact failureSound_clearFailed sound latched allowed
  | restarts => exact ⟨sound.1, fun fault => (nomatch fault), sound.2.2⟩
  | _ => simpa [failureSound, changeRawSupply, changeRawInhibit, demandReversal] using sound

theorem driveSound_powerOn (serial : BitVec 64) (x y : Bool) (q : List Instr) :
    driveSound (State.powerOn serial x y q) := DriveHolds.of_off rfl rfl

theorem failureSound_powerOn (serial : BitVec 64) (x y : Bool) (q : List Instr) :
    failureSound (State.powerOn serial x y q) := by
  simp [failureSound, State.powerOn, actPowerOn, snsPowerOn, healthClear, svcPowerOn]

/-- Settles O13: the drive through every operation of ACT, and the latch with its cause. -/
theorem stepKeepsActuatorSound : Obligations.StepKeepsActuatorSound := by
  refine keptByStep_of_move (fun s q sound => sound)
    (fun s x y _ => ⟨driveSound_powerOn _ x y _, failureSound_powerOn _ x y _⟩) ?_ ?_ ?_
  · rintro s t ⟨drive, failure⟩
    exact ⟨by simpa [driveSound] using drive, by simpa [failureSound] using failure⟩
  · rintro s ⟨drive, failure⟩
    refine ⟨driveSound_controlExpiry drive, ?_⟩
    cases state : s.svc.startState with
    | loading => rw [controlExpiry_of_loading state]; exact failure
    | done =>
      rw [failureSound_iff, controlExpiry_act state]
      simp only [controlExpiry_frame]
      exact ((failureSound_iff s).1 failure).handAct _ _
  · rintro s s' ⟨drive, failure⟩ move
    exact ⟨move.keeps_driveSound drive, move.keeps_failureSound failure⟩

/-! ## The angle command and the enable line over the whole machine (R143, R148) -/

theorem enable_latchFailure {cause : FailureCause} {a : Act} (off : a.enable = false) :
    (latchFailure cause a).enable = false := by
  unfold latchFailure
  split
  · exact off
  · rfl

/-- No move touches the command or turns the drive on. -/
theorem Move.command_and_enable {s s' : State} (move : Move s s') :
    s'.dmd.command = s.dmd.command ∧ (s.act.enable = false → s'.act.enable = false) := by
  cases move with
  | takesBody v =>
    refine ⟨by simp, fun off => ?_⟩
    obtain same | failed := takeBodyFrame_act v s
    · exact same ▸ off
    · exact failed ▸ enable_latchFailure off
  | changesSupply =>
    refine ⟨by simp, fun off => ?_⟩
    rw [supplyChanges_act]
    unfold supplyAct
    split
    · exact off
    · split
      · exact enable_latchFailure rfl
      · rfl
  | handsRecord =>
    refine ⟨by simp, fun off => ?_⟩
    rw [handRecord_act, takeLoadOutcome_act]
    split
    · rfl
    · split
      · split <;> exact off
      · exact off
  | restarts => exact ⟨rfl, fun _ => rfl⟩
  | clearsFailed => exact ⟨rfl, id⟩
  | _ => simp [changeRawSupply, changeRawInhibit, demandReversal]

theorem effect_command_and_enable {i : Instr} (notPowerOn : ∀ x y, i ≠ .powerOn x y)
    (notControl : ∀ t, i ≠ .controlExpiry t) (s : State) :
    (effect i s).dmd.command = s.dmd.command ∧ (s.act.enable = false → (effect i s).act.enable = false) :=
  (effect_moves i s notPowerOn notControl).keeps
    (sound := fun v => v.dmd.command = s.dmd.command ∧ (s.act.enable = false → v.act.enable = false))
    (fun _ _ before move => ⟨move.command_and_enable.1.trans before.1, move.command_and_enable.2 ∘ before.2⟩)
    ⟨rfl, id⟩

/-- An expiry moves the command by one rate step at most. -/
theorem controlExpiry_command_near (s : State) :
    ((controlExpiry s).dmd.command - s.dmd.command).natAbs ≤ rateStep s.svc.config := by
  cases state : s.svc.startState with
  | loading => rw [controlExpiry_of_loading state]; simp
  | done =>
    rw [controlExpiry_command state]
    exact natAbs_stepToward_sub_le _ _ _

/-- Settles O48: POWER_ON and CONTROL_EXPIRY by themselves, every other command as a chain of moves. -/
theorem onlyExpiriesMoveTheCarBody : Obligations.OnlyExpiriesMoveTheCarBody := by
  intro i s s' answered
  obtain ⟨-, rfl⟩ := eq_effect_of_exec answered
  by_cases isPowerOn : ∃ x y, i = .powerOn x y
  · obtain ⟨x, y, rfl⟩ := isPowerOn
    exact ⟨fun _ _ _ => rfl, fun other => absurd rfl (other x y), fun _ => .inr ⟨x, y, rfl⟩, fun _ on => nomatch on⟩
  · by_cases isControl : ∃ t, i = .controlExpiry t
    · obtain ⟨t, rfl⟩ := isControl
      refine ⟨fun x y h => (nomatch h), fun _ => ?_, fun _ => .inl ⟨t, rfl⟩, fun _ _ => ⟨t, rfl⟩⟩
      simpa [effect, lapseOf, rateStep] using controlExpiry_command_near (s.lapse t)
    · obtain ⟨command, enable⟩ := effect_command_and_enable (fun x y h => isPowerOn ⟨x, y, h⟩)
        (fun t h => isControl ⟨t, h⟩) (s.lapse (lapseOf i))
      simp only [lapse_frame] at command enable
      refine ⟨fun x y h => absurd ⟨x, y, h⟩ isPowerOn, fun _ => by simp [command], fun moved => absurd command moved,
        fun off on => nomatch (enable off).symm.trans on⟩

end Sys2Proof.Machine
end

section
/-! SUPPORT. The invariant of SVC's reports: which kinds of event each operation raises, the condition latches, and the
counters. -/

namespace Sys2Proof.Machine

/-! ## Raisings of the kinds that a predicate allows (R172) -/

/-- An event set that raisings of allowed kinds, and nothing else, lead to. -/
def RaisesOnly (ok : EventKind → Prop) : EventSet → EventSet → Prop :=
  Relation.ReflTransGen fun x y =>
    ∃ d, ok (kindOf d) ∧ y = x.setRecord (kindOf d) (raisedRecord d (x.record (kindOf d)))

namespace RaisesOnly

variable {ok wider : EventKind → Prop} {x y z : EventSet}

theorem refl (x : EventSet) : RaisesOnly ok x x := Relation.ReflTransGen.refl

theorem trans (first : RaisesOnly ok x y) (second : RaisesOnly ok y z) : RaisesOnly ok x z :=
  Relation.ReflTransGen.trans first second

theorem mono (chain : RaisesOnly ok x y) (widens : ∀ k, ok k → wider k) : RaisesOnly wider x y :=
  Relation.ReflTransGen.mono (fun _ _ ⟨d, kind, raised⟩ => ⟨d, widens _ kind, raised⟩) _ _ chain

theorem of_eq (same : y = x) : RaisesOnly ok x y := same.symm ▸ refl x

theorem raise {d : Detail} {s : State} (chain : RaisesOnly ok x s.svc.events) (kind : ok (kindOf d)) :
    RaisesOnly ok x (s.raise d).svc.events :=
  Relation.ReflTransGen.tail chain ⟨d, kind, rfl⟩

/-- A kind that is not allowed keeps its record. -/
theorem record_eq (chain : RaisesOnly ok x y) {k : EventKind} (other : ¬ok k) : y.record k = x.record k := by
  induction chain with
  | refl => rfl
  | tail _ step ih =>
    obtain ⟨d, kind, rfl⟩ := step
    rw [EventSet.record_setRecord_of_ne _ _ (fun same => other (by rw [same]; exact kind)), ih]

end RaisesOnly

/-! ## Which kinds each operation raises -/

/-- The kinds that a step of SRC raises (R86, R117). -/
def ofSourceStep (k : EventKind) : Prop := k = .split ∨ k = .sourceChange

/-- The kinds that a sample handed to PVQ raises (R99, R115, R134). -/
def ofSample (k : EventKind) : Prop := k = .queueLoss ∨ k = .split ∨ k = .modeChange

theorem offerTo_raises (e : End) (f : LinkFrame) (s : State) :
    RaisesOnly (· = .queueLoss) s.svc.events (offerTo e f s).svc.events := by
  obtain ⟨-, same⟩ | ⟨-, -, dropped⟩ | ⟨-, -, joined⟩ := offerTo_cases e f s
  · exact .of_eq (by rw [same])
  · rw [dropped]
    exact RaisesOnly.raise (.of_eq (by simp)) rfl
  · exact .of_eq (by rw [joined]; simp)

theorem resetSplit_raises (cause : SplitCause) (s : State) :
    RaisesOnly (· = .split) s.svc.events (resetSplit cause s).svc.events := by
  unfold resetSplit raiseSplit
  dsimp only
  split
  · exact RaisesOnly.raise (.refl _) rfl
  · exact .refl _

theorem endStep_raises (cause : SourceCause) (pBefore : Identity) (x : Slots) {s v : State} (same : v.svc = s.svc) :
    RaisesOnly ofSourceStep s.svc.events (endStep cause pBefore x v).svc.events := by
  rw [← same]
  obtain ⟨-, steps⟩ | ⟨-, puts⟩ := endStep_cases cause pBefore x v
  · rw [steps]
    exact RaisesOnly.raise ((resetSplit_raises .binding (putSlots x v)).mono fun _ => .inl) (.inr rfl)
  · rw [puts]
    exact .refl _

theorem judgeAtFrame_raises (s : State) : RaisesOnly ofSourceStep s.svc.events (judgeAtFrame s).svc.events := by
  obtain ⟨-, -, full⟩ | ⟨-, judged⟩ := judgeAtFrame_cases s
  · rw [full]; exact endStep_raises _ _ _ rfl
  · rw [judged]; exact .refl _

theorem judgeAtExpiry_raises (s : State) : RaisesOnly ofSourceStep s.svc.events (judgeAtExpiry s).svc.events := by
  obtain ⟨-, -, full⟩ | ⟨-, -, promotion⟩ | ⟨-, judged⟩ := judgeAtExpiry_cases s
  · rw [full]; exact endStep_raises _ _ _ rfl
  · rw [promotion]; exact endStep_raises _ _ _ rfl
  · rw [judged]; exact .refl _

theorem sourceReversal_raises (s : State) : RaisesOnly ofSourceStep s.svc.events (sourceReversal s).svc.events :=
  endStep_raises _ _ _ rfl

/-- The kinds that a judgement of the roster raises (R60, R86, R117). -/
def ofFormation (k : EventKind) : Prop := k = .rollDone ∨ ofSourceStep k

theorem sourceFormed_raises (s : State) : RaisesOnly ofSourceStep s.svc.events (sourceFormed s).svc.events :=
  endStep_raises _ _ _ rfl

theorem sourceNotFormed_raises (s : State) : RaisesOnly ofSourceStep s.svc.events (sourceNotFormed s).svc.events :=
  endStep_raises _ _ _ rfl

theorem raiseRollDone_raises {s v : State} (same : v.svc = s.svc) :
    RaisesOnly ofFormation s.svc.events (raiseRollDone v).svc.events :=
  .raise (.of_eq (by rw [same])) (.inl rfl)

theorem formTrain_raises (s : State) : RaisesOnly ofFormation s.svc.events (formTrain s).svc.events := by
  have step := (sourceFormed_raises (raiseRollDone { s with
    rcl.previousRoster := [], rcl.trainState := .formed, rcl.roster := formedRoster s.svc.config.identity s.rcl.roster })).mono
      (wider := ofFormation) fun _ => .inr
  exact RaisesOnly.trans (raiseRollDone_raises (by rfl)) step

theorem formWithout_raises (outcome : TrainState) (s : State) :
    RaisesOnly ofFormation s.svc.events (formWithout outcome s).svc.events := by
  have step := (sourceNotFormed_raises (raiseRollDone { s with
    rcl.previousRoster := [], rcl.trainState := outcome })).mono (wider := ofFormation) fun _ => .inr
  exact RaisesOnly.trans (raiseRollDone_raises (by rfl)) step

theorem judgeSplit_raises {s v : State} (same : v.svc = s.svc) : RaisesOnly ofSample s.svc.events (judgeSplit v).svc.events := by
  rw [← same]
  unfold judgeSplit
  split
  · unfold splitHold
    have split {w : State} (same : w.svc = v.svc) :
        RaisesOnly ofSample v.svc.events (raiseSplit .set .count w).svc.events :=
      RaisesOnly.raise (.of_eq (by rw [same])) (.inr (.inl rfl))
    split
    · exact RaisesOnly.raise (split rfl) (.inr (.inr rfl))
    · exact split rfl
  · split
    · exact RaisesOnly.raise (.refl _) (.inr (.inl rfl))
    · exact .refl _

theorem crossCheck_raises (slot : Slot) (e : PreviewEntry) (s : State) :
    RaisesOnly ofSample s.svc.events (crossCheck slot e s).svc.events := by
  unfold crossCheck
  split
  · exact .refl _
  · split
    · exact .refl _
    · split
      · unfold judgePair
        split <;> exact judgeSplit_raises rfl
      · exact .refl _

theorem setSlotQueue_svc (k : Slot) (q : List PreviewEntry) (s : State) : (setSlotQueue k q s).svc = s.svc := by
  simp

theorem joinEntry_raises (k : Slot) (e : PreviewEntry) (s : State) :
    RaisesOnly ofSample s.svc.events (joinEntry k e s).svc.events := by
  have joins := crossCheck_raises k e (setSlotQueue k (slotQueue s k ++ [e]) s)
  rwa [setSlotQueue_svc] at joins

theorem makeRoom_raises (k : Slot) (s : State) : RaisesOnly ofSample s.svc.events (makeRoom k s).svc.events := by
  unfold makeRoom
  split
  · exact RaisesOnly.raise (.of_eq (by simp)) (.inl rfl)
  · exact .refl _

theorem joinOrRefuse_raises (k : Slot) (e : PreviewEntry) (s : State) :
    RaisesOnly ofSample s.svc.events (joinOrRefuse k e s).svc.events := by
  unfold joinOrRefuse
  split
  · exact joinEntry_raises k e s
  · split
    · refine RaisesOnly.trans (.trans (.of_eq ?_) (makeRoom_raises k (countGap k _ s))) (joinEntry_raises k e _)
      simp [countGap]
    · exact .of_eq (by simp [countOutOfOrder])

theorem takeSample_raises (t : TrackSample) (age : Nat) (s : State) :
    RaisesOnly ofSample s.svc.events (takeSample t age s).svc.events := by
  unfold takeSample
  split
  · exact .refl _
  · split
    · exact joinOrRefuse_raises _ _ s
    · exact .refl _

theorem takeOrder_raises (o : TiltOrder) (s : State) :
    RaisesOnly (· = .orderReceived) s.svc.events (takeOrder o s).svc.events := by
  unfold takeOrder
  split
  · exact .refl _
  · split
    · exact RaisesOnly.raise (.refl _) rfl
    · exact .refl _

theorem failActuator_raises (cause : FailureCause) {s v : State} (same : v.svc = s.svc) :
    RaisesOnly (· = .actuatorFault) s.svc.events (failActuator cause v).svc.events := by
  rw [← same]
  rw [failActuator_eq]
  exact RaisesOnly.raise (.refl _) rfl

/-- The kinds that a frame of the body-angle unit raises (R20, R21, R154). -/
def ofBodyFrame (k : EventKind) : Prop := k = .sensorFault ∨ k = .actuatorFault

theorem countBogieFrame_raises (good : Bool) {s v : State} (same : v.svc = s.svc) :
    RaisesOnly (· = .sensorFault) s.svc.events (countBogieFrame good v).svc.events := by
  rw [← same]
  unfold countBogieFrame
  dsimp only
  split
  · exact RaisesOnly.raise (.refl _) rfl
  · exact RaisesOnly.raise (.refl _) rfl
  · exact .refl _

theorem countBodyFrame_raises (good : Bool) {s v : State} (same : v.svc = s.svc) :
    RaisesOnly ofBodyFrame s.svc.events (countBodyFrame good v).svc.events := by
  rw [← same]
  unfold countBodyFrame
  dsimp only
  split
  · have fails {w : State} (raises : RaisesOnly ofBodyFrame v.svc.events w.svc.events) :
        RaisesOnly ofBodyFrame v.svc.events (failActuator .sensor w).svc.events :=
      raises.trans ((failActuator_raises .sensor rfl).mono fun _ => .inr)
    exact fails (RaisesOnly.raise (.refl _) (.inl rfl))
  · exact RaisesOnly.raise (.refl _) (.inl rfl)
  · exact .refl _

theorem takeBogieFrame_raises (v : Verdict) (s : State) :
    RaisesOnly (· = .sensorFault) s.svc.events (takeBogieFrame v s).svc.events := by
  unfold takeBogieFrame
  split
  · exact countBogieFrame_raises _ rfl
  · exact countBogieFrame_raises _ rfl

theorem takeBodyFrame_raises (v : Verdict) (s : State) :
    RaisesOnly ofBodyFrame s.svc.events (takeBodyFrame v s).svc.events := by
  unfold takeBodyFrame
  split <;> exact countBodyFrame_raises _ rfl

theorem handRecord_raises (o : LoadOutcome) (s : State) :
    RaisesOnly (· = .configFault) s.svc.events (handRecord o s).svc.events := by
  unfold handRecord takeLoadOutcome
  split
  · exact RaisesOnly.raise (.refl _) rfl
  · split
    · split <;> exact .refl _
    · exact .refl _

/-! ## The records of the event set (R172) -/

theorem mem_kindsByPriority (k : EventKind) : k ∈ kindsByPriority := by cases k <;> decide

theorem recordOfKind_raised {d : Detail} {r : EventRecord} (sound : recordOfKind (kindOf d) r) :
    recordOfKind (kindOf d) (raisedRecord d r) := by
  obtain ⟨count, pending, detail⟩ := sound
  unfold raisedRecord
  split
  · next isPending =>
    rw [if_pos isPending] at detail
    refine ⟨by simp only [succSat8]; omega, ?_, ?_⟩
    · have counted := pending.1 isPending
      simp only [isPending, true_iff, succSat8]
      omega
    · simp only [isPending, if_true]
      split
      · exact detail
      · rfl
  · exact ⟨by simp, by simp, by simp⟩

theorem recordOfKind_clear (k : EventKind) : recordOfKind k recordClear := ⟨by decide, by decide, rfl⟩

/-- Every record is of its kind. -/
def RecordsSound (es : EventSet) : Prop := ∀ k, recordOfKind k (es.record k)

theorem eventsSound_iff (s : State) : eventsSound s ↔ RecordsSound s.svc.events :=
  ⟨fun sound k => sound k (mem_kindsByPriority k), fun sound k _ => sound k⟩

theorem RecordsSound.setRecord {es : EventSet} {k : EventKind} {r : EventRecord} (sound : RecordsSound es)
    (record : recordOfKind k r) : RecordsSound (es.setRecord k r) := fun j => by
  by_cases same : j = k
  · subst same
    rwa [EventSet.record_setRecord]
  · rw [EventSet.record_setRecord_of_ne _ _ same]
    exact sound j

theorem recordsSound_clear : RecordsSound eventsClear := fun k => by
  rw [record_eventsClear]; exact recordOfKind_clear k

theorem RaisesOnly.keeps_records {ok : EventKind → Prop} {x y : EventSet} (chain : RaisesOnly ok x y)
    (sound : RecordsSound x) : RecordsSound y := by
  induction chain with
  | refl => exact sound
  | tail _ step ih =>
    obtain ⟨d, -, rfl⟩ := step
    exact ih.setRecord (recordOfKind_raised (ih _))

/-! ## The condition latches (R174) -/

/-- A line's latch that is not pending holds the live level. -/
def latchHolds (s : State) (line : ConditionLine) : Prop :=
  (conditionLatch s line).pending = false → (conditionLatch s line).value = liveLevel s line

/-- CONDITION-CHANGE is pending exactly while a latch is. -/
def changeHolds (s : State) : Prop :=
  s.svc.events.conditionChange.pending = true ↔
    s.svc.inhibitLatch.pending = true ∨ s.svc.supplyLatch.pending = true

theorem latchesSound_iff (s : State) : latchesSound s ↔ (∀ line, latchHolds s line) ∧ changeHolds s := by
  constructor
  · rintro ⟨inhibit, supply, change⟩
    exact ⟨fun line => by cases line <;> [exact inhibit; exact supply], change⟩
  · rintro ⟨holds, change⟩
    exact ⟨holds .inhibit, holds .supplyOk, change⟩

/-- A copied latch is pending, the other stays, and CONDITION-CHANGE is pending. -/
theorem copyCondition_holds {s : State} {line : ConditionLine} (others : ∀ l, l ≠ line → latchHolds s l) :
    (∀ l, latchHolds (copyCondition line s) l) ∧ changeHolds (copyCondition line s) := by
  have raised : (copyCondition line s).svc.events.conditionChange.pending = true := raisedRecord_pending _ _
  constructor
  · intro l
    by_cases same : l = line
    · subst same
      cases l <;> exact fun clear => nomatch clear
    · have before := others l same
      cases l <;> cases line <;> first | exact absurd rfl same | exact before
  · unfold changeHolds
    rw [raised]
    cases line <;> simp [copyCondition, setConditionLatch]

/-- A debounced level that is handed over leaves both latches sound. -/
theorem handCondition_holds {s : State} {line : ConditionLine} (others : ∀ l, l ≠ line → latchHolds s l)
    (change : changeHolds s) : latchesSound (handCondition line s) := by
  rw [latchesSound_iff]
  unfold handCondition
  split
  · next pending =>
    refine ⟨fun l => ?_, change⟩
    by_cases same : l = line
    · subst same
      exact fun clear => nomatch pending.symm.trans clear
    · exact others l same
  · exact copyCondition_holds others

theorem rejudgeCondition_holds {s : State} {line : ConditionLine} (others : ∀ l, l ≠ line → latchHolds s l)
    (change : changeHolds s) : (∀ l, latchHolds (rejudgeCondition line s) l) ∧ changeHolds (rejudgeCondition line s) := by
  unfold rejudgeCondition
  split
  · next level =>
    refine ⟨fun l => ?_, change⟩
    by_cases same : l = line
    · subst same
      exact fun _ => level.symm
    · exact others l same
  · exact copyCondition_holds others

theorem rejudgeCondition_self (s : State) (line : ConditionLine) : latchHolds (rejudgeCondition line s) line := by
  unfold rejudgeCondition
  split
  · next level => exact fun _ => level.symm
  · cases line <;> exact fun clear => nomatch clear

theorem rejudgeCondition_changeHolds {s : State} (line : ConditionLine) (change : changeHolds s) :
    changeHolds (rejudgeCondition line s) := by
  unfold rejudgeCondition
  split
  · exact change
  · unfold changeHolds
    rw [show (copyCondition line s).svc.events.conditionChange.pending = true from raisedRecord_pending _ _]
    cases line <;> simp [copyCondition, setConditionLatch]

/-- Both latches are judged anew, one after the other (R174). -/
theorem latchesSound_rejudgeConditions {s : State} (fetched : s.svc.events.conditionChange.pending = false) :
    latchesSound (rejudgeConditions s) := by
  rw [latchesSound_iff]
  unfold rejudgeConditions
  refine rejudgeCondition_holds (fun l other => ?_) (rejudgeCondition_changeHolds _ ?_)
  · cases l with
    | inhibit => exact rejudgeCondition_self _ _
    | supplyOk => exact absurd rfl other
  · simp [changeHolds, fetched]

theorem latchesSound_congr {s s' : State} (inhibitLatch : s'.svc.inhibitLatch = s.svc.inhibitLatch)
    (supplyLatch : s'.svc.supplyLatch = s.svc.supplyLatch) (inhibit : s'.cso.inhibit = s.cso.inhibit)
    (supply : s'.act.supplyOk = s.act.supplyOk)
    (change : s'.svc.events.conditionChange = s.svc.events.conditionChange) (sound : latchesSound s) :
    latchesSound s' := by
  simpa only [latchesSound, inhibitLatch, supplyLatch, inhibit, supply, change] using sound

/-- Raisings of other kinds keep CONDITION-CHANGE. -/
theorem RaisesOnly.conditionChange {ok : EventKind → Prop} {x y : EventSet} (chain : RaisesOnly ok x y)
    (other : ¬ok .conditionChange) : y.conditionChange = x.conditionChange :=
  chain.record_eq (k := .conditionChange) other

/-! ## The event set and the latches in each move -/

/-- What the event set and the latches need of an operation that leaves the lines and the latches. -/
structure KeepsReports (s s' : State) : Prop where
  raises : RaisesOnly (· ≠ .conditionChange) s.svc.events s'.svc.events
  inhibitLatch : s'.svc.inhibitLatch = s.svc.inhibitLatch
  supplyLatch : s'.svc.supplyLatch = s.svc.supplyLatch
  inhibit : s'.cso.inhibit = s.cso.inhibit
  supply : s'.act.supplyOk = s.act.supplyOk

/-- The event set and the latches are sound. -/
def ReportsSound (s : State) : Prop := RecordsSound s.svc.events ∧ latchesSound s

theorem KeepsReports.reportsSound {s s' : State} (keeps : KeepsReports s s') (sound : ReportsSound s) :
    ReportsSound s' :=
  ⟨keeps.raises.keeps_records sound.1,
    latchesSound_congr keeps.inhibitLatch keeps.supplyLatch keeps.inhibit keeps.supply
      (keeps.raises.conditionChange fun other => other rfl) sound.2⟩

theorem latchFailure_supplyOk (cause : FailureCause) (a : Act) : (latchFailure cause a).supplyOk = a.supplyOk := by
  unfold latchFailure; split <;> rfl

theorem recordsSound_copyCondition {s : State} (line : ConditionLine) (sound : RecordsSound s.svc.events) :
    RecordsSound (copyCondition line s).svc.events := by
  have same : (setConditionLatch line { value := liveLevel s line, pending := true } s).svc.events = s.svc.events := by
    cases line <;> rfl
  unfold copyCondition
  dsimp only
  rw [State.raise_events, same]
  exact sound.setRecord (recordOfKind_raised (sound _))

theorem recordsSound_handCondition {s : State} (line : ConditionLine) (sound : RecordsSound s.svc.events) :
    RecordsSound (handCondition line s).svc.events := by
  unfold handCondition
  split
  · exact sound
  · exact recordsSound_copyCondition line sound

theorem recordsSound_rejudgeCondition {s : State} (line : ConditionLine) (sound : RecordsSound s.svc.events) :
    RecordsSound (rejudgeCondition line s).svc.events := by
  unfold rejudgeCondition
  split
  · exact sound
  · exact recordsSound_copyCondition line sound

/-- A fetch clears a record, and after CONDITION-CHANGE both latches are judged anew. -/
theorem reportsSound_clearFetched {s : State} (kind : EventKind) (sound : ReportsSound s) :
    ReportsSound (clearFetched kind s) := by
  have cleared := sound.1.setRecord (recordOfKind_clear kind)
  unfold clearFetched
  dsimp only
  split
  · next change =>
    subst change
    exact ⟨recordsSound_rejudgeCondition _ (recordsSound_rejudgeCondition _ cleared),
      latchesSound_rejudgeConditions rfl⟩
  · next other =>
    refine ⟨cleared, latchesSound_congr (s := s) rfl rfl rfl rfl ?_ sound.2⟩
    exact EventSet.record_setRecord_of_ne s.svc.events (k' := .conditionChange) _ (Ne.symm other)

/-- A debounced change of SUPPLY-OK: what comes before the latch leaves it, and the latch takes the new level. -/
theorem reportsSound_supplyChanges {s : State} (sound : ReportsSound s) : ReportsSound (supplyChanges s) := by
  obtain ⟨records, latches⟩ := sound
  obtain ⟨holds, change⟩ := (latchesSound_iff s).1 latches
  unfold supplyChanges
  dsimp only
  have hands {v : State} (raises : RaisesOnly (· = .actuatorFault) s.svc.events v.svc.events)
      (inhibitLatch : v.svc.inhibitLatch = s.svc.inhibitLatch) (supplyLatch : v.svc.supplyLatch = s.svc.supplyLatch)
      (cso : v.cso = s.cso) : ReportsSound (handCondition .supplyOk v) := by
    refine ⟨recordsSound_handCondition _ (raises.keeps_records records), handCondition_holds (fun l other => ?_) ?_⟩
    · cases l with
      | inhibit => simpa only [latchHolds, conditionLatch, liveLevel, inhibitLatch, cso] using holds .inhibit
      | supplyOk => exact absurd rfl other
    · simpa only [changeHolds, inhibitLatch, supplyLatch, raises.conditionChange (by simp)] using change
  split
  · exact hands (.refl _) rfl rfl rfl
  · split
    · exact hands (failActuator_raises .supply rfl) (by simp) (by simp) (by simp)
    · exact hands (.refl _) rfl rfl rfl

theorem reportsSound_inhibitChanges {s : State} (sound : ReportsSound s) : ReportsSound (inhibitChanges s) := by
  obtain ⟨records, latches⟩ := sound
  obtain ⟨holds, change⟩ := (latchesSound_iff s).1 latches
  refine ⟨recordsSound_handCondition _ records, handCondition_holds (fun l other => ?_) change⟩
  cases l with
  | inhibit => exact absurd rfl other
  | supplyOk => exact holds .supplyOk

theorem latchesSound_restartUnits (s : State) : latchesSound (restartUnits s) :=
  ⟨fun _ => rfl, fun _ => rfl, by simp [restartUnits, beginLoad, restartService, latchAt, eventsClear, recordClear]⟩

theorem Move.keeps_reportsSound {s s' : State} (sound : ReportsSound s) (move : Move s s') : ReportsSound s' := by
  have keeps {ok : EventKind → Prop} {v : State} (raises : RaisesOnly ok s.svc.events v.svc.events)
      (other : ¬ok .conditionChange) (inhibitLatch : v.svc.inhibitLatch = s.svc.inhibitLatch)
      (supplyLatch : v.svc.supplyLatch = s.svc.supplyLatch) (inhibit : v.cso.inhibit = s.cso.inhibit)
      (supply : v.act.supplyOk = s.act.supplyOk) : ReportsSound v :=
    KeepsReports.reportsSound
      ⟨raises.mono fun _ kind same => other (same ▸ kind), inhibitLatch, supplyLatch, inhibit, supply⟩ sound
  cases move with
  | raises d kind => exact keeps (ok := (· ≠ .conditionChange)) (.raise (.refl _) kind) (by simp) rfl rfl rfl rfl
  | offers e f => exact keeps (offerTo_raises e f s) (by simp) (by simp) (by simp) (by simp) (by simp)
  | judges => exact keeps (judgeAtFrame_raises s) (by simp [ofSourceStep]) (by simp) (by simp) (by simp) (by simp)
  | forms =>
    exact keeps (formTrain_raises { s with rcl.quietTimer := none }) (by simp [ofFormation, ofSourceStep]) (by simp) (by simp)
      (by simp) (by simp)
  | formsWithout outcome =>
    exact keeps (formWithout_raises outcome { s with rcl.quietTimer := none }) (by simp [ofFormation, ofSourceStep]) (by simp)
      (by simp) (by simp) (by simp)
  | takesSample t age => exact keeps (takeSample_raises t age s) (by simp [ofSample]) (by simp) (by simp) (by simp) (by simp)
  | takesOrder o => exact keeps (takeOrder_raises o s) (by simp) (by simp) (by simp) (by simp) (by simp)
  | resetsSplit cause => exact keeps (resetSplit_raises cause s) (by simp) (by simp) (by simp) (by simp) (by simp)
  | reverses => exact keeps (sourceReversal_raises s) (by simp [ofSourceStep]) (by simp) (by simp) (by simp) (by simp)
  | takesBogie v => exact keeps (takeBogieFrame_raises v s) (by simp) (by simp) (by simp) (by simp) (by simp)
  | takesBody v =>
    refine keeps (takeBodyFrame_raises v s) (by simp [ofBodyFrame]) (by simp) (by simp) (by simp) ?_
    obtain same | failed := takeBodyFrame_act v s
    · rw [same]
    · rw [failed, latchFailure_supplyOk]
  | handsRecord =>
    refine keeps (handRecord_raises _ s) (by simp) (by simp) (by simp) (by simp) ?_
    rw [handRecord_act, takeLoadOutcome_act]
    split
    · rfl
    · split
      · split <;> rfl
      · rfl
  | changesSupply => exact reportsSound_supplyChanges sound
  | changesInhibit => exact reportsSound_inhibitChanges sound
  | fetches kind => exact reportsSound_clearFetched kind sound
  | restarts => exact ⟨recordsSound_clear, latchesSound_restartUnits s⟩
  | _ =>
    refine keeps (ok := fun _ => False) (.of_eq ?_) id ?_ ?_ ?_ ?_ <;>
      simp [changeRawSupply, changeRawInhibit, demandReversal, clearFailed]

/-! ## The control expiry -/

/-- The kinds that a control expiry raises (R86, R117, R136, R154). -/
def ofExpiry (k : EventKind) : Prop := ofSourceStep k ∨ k = .modeChange ∨ k = .actuatorFault

theorem takeMode_raises (chosen : TiltMode × ModeCause) (s : State) :
    RaisesOnly (· = .modeChange) s.svc.events (takeMode chosen s).svc.events := by
  unfold takeMode changeMode
  split
  · exact .refl _
  · exact RaisesOnly.raise (.of_eq (by simp)) rfl

theorem handCommand_raises (s : State) :
    RaisesOnly (· = .actuatorFault) s.svc.events (handCommand s).svc.events := by
  rw [handCommand_eq]
  dsimp only
  split
  · exact RaisesOnly.raise (.refl _) rfl
  · exact .refl _

/-- SRC's part of an expiry, up to the lookup. -/
theorem workPreview_raises (s : State) : RaisesOnly ofSourceStep s.svc.events (workPreview s).svc.events :=
  judgeAtExpiry_raises s

theorem workHold_svc (s : State) : (workHold s).svc = s.svc := by
  unfold workHold; split <;> rfl

theorem controlExpiry_raises (s : State) : RaisesOnly ofExpiry s.svc.events (controlExpiry s).svc.events := by
  cases state : s.svc.startState with
  | loading => rw [controlExpiry_of_loading state]; exact .refl _
  | done =>
    rw [controlExpiry_of_done state]
    have source := (workPreview_raises (workLookahead { s with odo := evaluateSpeed s.odo })).mono
      (wider := ofExpiry) fun _ => .inl
    have mode {v : State} (chain : RaisesOnly ofExpiry s.svc.events v.svc.events) :
        RaisesOnly ofExpiry s.svc.events (workMode v).svc.events :=
      chain.trans ((takeMode_raises _ { v with
        dmd.standing := judgedStanding v.rcl.trainState v.dmd.standing }).mono fun _ kind => .inr (.inl kind))
    have hand {v : State} (chain : RaisesOnly ofExpiry s.svc.events v.svc.events) :
        RaisesOnly ofExpiry s.svc.events (workHand (workCommand (workTarget (workDemand v)))).svc.events :=
      chain.trans ((handCommand_raises (workCommand (workTarget (workDemand v)))).mono fun _ kind => .inr (.inr kind))
    refine hand (mode ?_)
    rw [workHold_svc]
    exact source

theorem reportsSound_controlExpiry {s : State} (sound : ReportsSound s) : ReportsSound (controlExpiry s) :=
  KeepsReports.reportsSound
    ⟨(controlExpiry_raises s).mono (by rintro k (⟨rfl | rfl⟩ | rfl | rfl) <;> simp), by simp, by simp, by simp, by simp⟩ sound

end Sys2Proof.Machine
end

section
/-! SUPPORT. The counters that READ-COUNTERS returns: every one saturates at 65,535. -/

namespace Sys2Proof.Machine

/-- Counts that fit 16 bits. -/
def Fit (l : List Nat) : Prop := ∀ n ∈ l, n ≤ 65535

theorem fit_append {l m : List Nat} : Fit (l ++ m) ↔ Fit l ∧ Fit m := List.forall_mem_append

/-- The counters of XCK. -/
def xckCountList (x : Xck) : List Nat := [x.agreed, x.disagreed, x.unmatched, x.latchSettings]

/-- The counters of SNS, of both ports, of PVQ, XCK and SVC by themselves. -/
def snsCountList (c : SensorCounters) : List Nat :=
  badFrameList c.bogie ++ badFrameList c.body ++ [c.bodyOutOfRange, c.bogieClamped]

theorem countersSound_iff (s : State) :
    countersSound s ↔ Fit (snsCountList s.sns.counters) ∧
      (Fit (portCounterList s.portA.counters) ∧ Fit (portCounterList s.portB.counters)) ∧
      (Fit (slotCountList s.pvq.countsP) ∧ Fit (slotCountList s.pvq.countsS)) ∧ Fit (xckCountList s.xck) ∧
      s.svc.malformed ≤ 65535 := by
  change Fit (counterList s) ↔ _
  simp only [counterList, snsCountList, fit_append, xckCountList]
  simp only [Fit, List.mem_singleton, forall_eq, and_assoc]

theorem fit_ports_iff (s : State) : (∀ e, Fit (portCounterList (s.port e).counters)) ↔
    Fit (portCounterList s.portA.counters) ∧ Fit (portCounterList s.portB.counters) :=
  ⟨fun all => ⟨all .a, all .b⟩, fun both e => by cases e <;> [exact both.1; exact both.2]⟩

theorem fit_slots_iff (s : State) : (∀ k, Fit (slotCountList (slotCounts s k))) ↔
    Fit (slotCountList s.pvq.countsP) ∧ Fit (slotCountList s.pvq.countsS) :=
  ⟨fun all => ⟨all .p, all .s⟩, fun both k => by cases k <;> [exact both.1; exact both.2]⟩

/-! ## Each unit's counters -/

theorem fit_countBad {c : BadFrameCounts} (v : Verdict) (fit : Fit (badFrameList c)) : Fit (badFrameList (countBad v c)) := by
  simp only [Fit, badFrameList, List.forall_mem_cons] at fit ⊢
  obtain ⟨noReply, check, address, status, rest⟩ := fit
  cases v <;> exact ⟨by simp [countBad, addSat16, *], by simp [countBad, addSat16, *], by simp [countBad, addSat16, *],
    by simp [countBad, addSat16, *], rest⟩

theorem PortMove.keeps_counters {now : Nat} {p q : Port} (fit : Fit (portCounterList p.counters))
    (move : PortMove now p q) : Fit (portCounterList q.counters) := by
  cases move with
  | keeps _ _ _ _ _ counters =>
    intro n mem
    obtain old | saturated := counters n mem
    · exact fit n old
    · exact saturated
  | chooses =>
    cases waits : p.notices with
    | cons x rest => rw [chooseNext_of_notice now waits]; exact fit
    | nil =>
      rw [chooseNext_of_no_notice now waits]
      simp only [Fit, portCounterList, List.forall_mem_cons] at fit ⊢
      exact ⟨fit.1, fit.2.1, fit.2.2.1, fit.2.2.2.1, fit.2.2.2.2.1, fit.2.2.2.2.2.1, addSat16_le _ _, by simp⟩
  | _ => exact fit

theorem fit_countDrop {p : Port} (body : FrameBody) (fit : Fit (portCounterList p.counters)) :
    Fit (portCounterList (countDrop body p).counters) := by
  unfold countDrop
  simp only [Fit, portCounterList, List.forall_mem_cons] at fit ⊢
  split <;> simp_all [addSat16]

theorem chooseIfIdle_move {now : Nat} {p : Port} (fit : Fit (portCounterList p.counters)) :
    Fit (portCounterList (chooseIfIdle now p).counters) := by
  unfold chooseIfIdle chooseNext
  split
  · split
    · exact fit
    · simp only [Fit, portCounterList, List.forall_mem_cons] at fit ⊢
      exact ⟨fit.1, fit.2.1, fit.2.2.1, fit.2.2.2.1, fit.2.2.2.2.1, fit.2.2.2.2.2.1, addSat16_le _ _, by simp⟩
  · exact fit

theorem fit_setPort {s : State} {e : End} {p : Port} (new : Fit (portCounterList p.counters))
    (fit : ∀ e, Fit (portCounterList (s.port e).counters)) : ∀ i, Fit (portCounterList ((s.setPort e p).port i).counters) := by
  intro i
  by_cases same : i = e
  · subst same; rwa [State.port_setPort]
  · obtain rfl : i = otherEnd e := by cases i <;> cases e <;> simp_all [otherEnd]
    rw [State.port_setPort_other]
    exact fit _

theorem fit_offerTo {s : State} (e : End) (f : LinkFrame) (fit : ∀ e, Fit (portCounterList (s.port e).counters)) :
    ∀ i, Fit (portCounterList ((offerTo e f s).port i).counters) := by
  obtain ⟨-, same⟩ | ⟨-, -, dropped⟩ | ⟨-, -, joined⟩ := offerTo_cases e f s
  · rwa [same]
  · rw [dropped]
    simpa only [State.raise_port] using fit_setPort (fit_countDrop f.body (fit e)) fit
  · rw [joined]
    refine fit_setPort (chooseIfIdle_move ?_) fit
    unfold joinTail
    split <;> exact fit e

/-! ## XCK and PVQ -/

theorem fit_judgeSplit {s : State} (fit : Fit (xckCountList s.xck)) : Fit (xckCountList (judgeSplit s).xck) := by
  simp only [Fit, xckCountList, List.forall_mem_cons] at fit ⊢
  obtain ⟨agreed, disagreed, unmatched, settings, rest⟩ := fit
  refine ⟨by simpa, by simpa, by simpa, ?_, rest⟩
  unfold judgeSplit
  split
  · simp [addSat16]
  · split <;> simpa

theorem fit_crossCheck {s : State} (k : Slot) (e : PreviewEntry) (fit : Fit (xckCountList s.xck)) :
    Fit (xckCountList (crossCheck k e s).xck) := by
  have unmatched : Fit (xckCountList (countUnmatched s).xck) := by
    simp only [Fit, xckCountList, List.forall_mem_cons] at fit ⊢
    exact ⟨fit.1, fit.2.1, addSat16_le _ _, fit.2.2.2⟩
  have pair (m : PreviewEntry) : Fit (xckCountList (judgePair e m s).xck) := by
    simp only [Fit, xckCountList, List.forall_mem_cons] at fit
    unfold judgePair
    split
    · refine fit_judgeSplit ?_
      simp only [Fit, xckCountList, List.forall_mem_cons]
      exact ⟨fit.1, addSat16_le _ _, fit.2.2⟩
    · refine fit_judgeSplit ?_
      simp only [Fit, xckCountList, List.forall_mem_cons]
      exact ⟨addSat16_le _ _, fit.2⟩
  unfold crossCheck
  split
  · exact fit
  · split
    · exact unmatched
    · split
      · exact pair _
      · exact unmatched

@[simp] theorem slotCounts_setSlotQueue (k j : Slot) (q : List PreviewEntry) (s : State) :
    slotCounts (setSlotQueue k q s) j = slotCounts s j := by cases k <;> cases j <;> rfl

theorem slotCounts_setSlotCounts (k j : Slot) (c : SlotCounts) (s : State) :
    slotCounts (setSlotCounts k c s) j = if j = k then c else slotCounts s j := by
  cases k <;> cases j <;> simp [slotCounts, setSlotCounts]

theorem slotCounts_congr {s v : State} (countsP : v.pvq.countsP = s.pvq.countsP) (countsS : v.pvq.countsS = s.pvq.countsS)
    (k : Slot) : slotCounts v k = slotCounts s k := by
  cases k <;> [exact countsP; exact countsS]

@[simp] theorem slotCounts_raise (k : Slot) (d : Detail) (s : State) : slotCounts (s.raise d) k = slotCounts s k := by
  cases k <;> rfl

@[simp] theorem slotCounts_joinEntry (k j : Slot) (e : PreviewEntry) (s : State) :
    slotCounts (joinEntry k e s) j = slotCounts s j := slotCounts_congr (by simp) (by simp) j

/-- The counters of PVQ and XCK, which a sample moves. -/
def SampleCountsFit (s : State) : Prop := (∀ k, Fit (slotCountList (slotCounts s k))) ∧ Fit (xckCountList s.xck)

/-- A saturated count written into a slot's counts leaves them fitting. -/
theorem SampleCountsFit.setSlotCounts {s : State} {k : Slot} {c : SlotCounts} (fit : SampleCountsFit s)
    (new : Fit (slotCountList c)) : SampleCountsFit (setSlotCounts k c s) := by
  refine ⟨fun j => ?_, by simpa using fit.2⟩
  rw [slotCounts_setSlotCounts]
  split
  · exact new
  · exact fit.1 j

theorem SampleCountsFit.joinEntry {s : State} (k : Slot) (e : PreviewEntry) (fit : SampleCountsFit s) :
    SampleCountsFit (joinEntry k e s) :=
  ⟨fun j => by simpa using fit.1 j, fit_crossCheck k e (by simpa using fit.2)⟩

theorem SampleCountsFit.countGap {s : State} (k : Slot) (missing : Nat) (fit : SampleCountsFit s) :
    SampleCountsFit (countGap k missing s) := by
  refine fit.setSlotCounts ?_
  have counts := fit.1 k
  simp only [Fit, slotCountList, List.forall_mem_cons] at counts ⊢
  exact ⟨counts.1, addSat16_le _ _, counts.2.2⟩

theorem SampleCountsFit.countOutOfOrder {s : State} (k : Slot) (fit : SampleCountsFit s) :
    SampleCountsFit (countOutOfOrder k s) := by
  refine fit.setSlotCounts ?_
  have counts := fit.1 k
  simp only [Fit, slotCountList, List.forall_mem_cons] at counts ⊢
  exact ⟨addSat16_le _ _, counts.2⟩

theorem SampleCountsFit.makeRoom {s : State} (k : Slot) (fit : SampleCountsFit s) : SampleCountsFit (makeRoom k s) := by
  unfold Machine.makeRoom
  split
  · have counts := fit.1 k
    have dropped : SampleCountsFit (setSlotQueue k (slotQueue s k).tail s) :=
      ⟨fun j => by simpa using fit.1 j, by simpa using fit.2⟩
    have counted := dropped.setSlotCounts (k := k)
      (c := { slotCounts s k with headDrop := addSat16 (slotCounts s k).headDrop 1 }) (by
        simp only [Fit, slotCountList, List.forall_mem_cons] at counts ⊢
        exact ⟨counts.1, counts.2.1, addSat16_le _ _, by simp⟩)
    exact ⟨fun j => by simpa using counted.1 j, counted.2⟩
  · exact fit

theorem SampleCountsFit.takeSample {s : State} (t : TrackSample) (age : Nat) (fit : SampleCountsFit s) :
    SampleCountsFit (takeSample t age s) := by
  unfold Machine.takeSample joinOrRefuse
  split
  · exact fit
  · split
    · split
      · exact fit.joinEntry _ _
      · split
        · exact ((fit.countGap _ _).makeRoom _).joinEntry _ _
        · exact fit.countOutOfOrder _
    · exact fit

/-! ## SNS -/

theorem countBogieFrame_counters (good : Bool) (s : State) :
    (countBogieFrame good s).sns.counters = s.sns.counters := by
  obtain same | emptied := countBogieFrame_sns good s
  · rw [same]
  · rw [emptied]

theorem countBodyFrame_counters (good : Bool) (s : State) : (countBodyFrame good s).sns.counters = s.sns.counters := by
  rw [countBodyFrame_sns]

theorem fit_takeBogieFrame {s : State} (v : Verdict) (fit : Fit (snsCountList s.sns.counters)) :
    Fit (snsCountList (takeBogieFrame v s).sns.counters) := by
  simp only [snsCountList, fit_append] at fit
  obtain ⟨⟨bogie, body⟩, others⟩ := fit
  unfold takeBogieFrame
  split
  · rw [countBogieFrame_counters]
    simp only [Fit, List.forall_mem_cons] at others
    simp only [snsCountList, fit_append]
    refine ⟨⟨bogie, body⟩, ?_⟩
    simp only [Fit, List.forall_mem_cons, useBogieValue]
    refine ⟨others.1, ?_, others.2.2⟩
    split
    · exact addSat16_le _ _
    · exact others.2.1
  · rw [countBogieFrame_counters]
    simp only [snsCountList, fit_append]
    exact ⟨⟨fit_countBad v bogie, body⟩, others⟩

theorem fit_takeBodyFrame {s : State} (v : Verdict) (fit : Fit (snsCountList s.sns.counters)) :
    Fit (snsCountList (takeBodyFrame v s).sns.counters) := by
  simp only [snsCountList, fit_append] at fit
  obtain ⟨⟨bogie, body⟩, others⟩ := fit
  unfold takeBodyFrame
  split
  · rw [countBodyFrame_counters]
    simp only [snsCountList, fit_append]
    exact ⟨⟨bogie, body⟩, others⟩
  · rw [countBodyFrame_counters]
    simp only [snsCountList, fit_append]
    simp only [Fit, List.forall_mem_cons] at others
    refine ⟨⟨bogie, body⟩, ?_⟩
    simp only [Fit, List.forall_mem_cons]
    exact ⟨addSat16_le _ _, others.2⟩
  · rw [countBodyFrame_counters]
    simp only [snsCountList, fit_append]
    exact ⟨⟨bogie, fit_countBad v body⟩, others⟩

/-! ## The moves and the step -/

theorem Move.keeps_countersSound {s s' : State} (sound : countersSound s) (move : Move s s') : countersSound s' := by
  rw [countersSound_iff] at sound ⊢
  obtain ⟨sns, ports, slots, xck, malformed⟩ := sound
  cases move with
  | movesPort e move =>
    refine ⟨by simpa using sns, (fit_ports_iff _).1 (fit_setPort (move.keeps_counters ?_) ?_), by simpa using slots,
      by simpa using xck, by simpa using malformed⟩
    · exact (fit_ports_iff s).2 ports e
    · exact (fit_ports_iff s).2 ports
  | offers e f =>
    exact ⟨by simpa using sns, (fit_ports_iff _).1 (fit_offerTo e f ((fit_ports_iff s).2 ports)), by simpa using slots,
      by simpa using xck, by simpa using malformed⟩
  | takesSample t age =>
    have counts := SampleCountsFit.takeSample t age ⟨(fit_slots_iff s).2 slots, xck⟩
    exact ⟨by simpa using sns, by simpa using ports, (fit_slots_iff _).1 counts.1, counts.2, by simpa using malformed⟩
  | takesBogie v =>
    exact ⟨fit_takeBogieFrame v sns, by simpa using ports, by simpa using slots, by simpa using xck,
      by simpa using malformed⟩
  | takesBody v =>
    exact ⟨fit_takeBodyFrame v sns, by simpa using ports, by simpa using slots, by simpa using xck,
      by simpa using malformed⟩
  | countsMalformed => exact ⟨sns, ports, slots, xck, addSat16_le _ _⟩
  | restarts =>
    have zero {l : List Nat} (zeros : ∀ n ∈ l, n = 0) : Fit l := fun n mem => by simp [zeros n mem]
    exact ⟨zero (l := snsCountList sensorCountersZero) (by decide), ports,
      ⟨zero (l := slotCountList slotCountsZero) (by decide), zero (l := slotCountList slotCountsZero) (by decide)⟩,
      zero (l := [0, 0, 0, 0]) (by decide), Nat.zero_le _⟩
  | _ =>
    refine ⟨?_, ?_, ?_, ?_, ?_⟩ <;> simpa [xckCountList, changeRawSupply, changeRawInhibit, demandReversal, clearFailed]

/-- What a lapse leaves of SVC's reports and of the ports' counters. -/
@[simp] theorem lapse_reports (t : Lapse) (s : State) :
    (s.lapse t).svc.inhibitLatch = s.svc.inhibitLatch ∧ (s.lapse t).svc.supplyLatch = s.svc.supplyLatch ∧
    (s.lapse t).svc.malformed = s.svc.malformed ∧ (s.lapse t).svc.answer = s.svc.answer ∧
    (s.lapse t).portA.counters = s.portA.counters ∧ (s.lapse t).portB.counters = s.portB.counters := by
  unfold State.lapse lapseSvc
  split
  · simp
  · dsimp only
    split <;> simp

theorem countersSound_powerOn (serial : BitVec 64) (x y : Bool) (q : List Instr) :
    countersSound (State.powerOn serial x y q) := fun n mem => by
  simp [counterList_powerOn serial x y q n mem]

theorem reportsSound_powerOn (serial : BitVec 64) (x y : Bool) (q : List Instr) :
    ReportsSound (State.powerOn serial x y q) :=
  ⟨recordsSound_clear, fun _ => rfl, fun _ => rfl, by simp [State.powerOn, svcPowerOn, eventsClear, recordClear, latchAt]⟩

theorem countersSound_controlExpiry {s : State} (sound : countersSound s) : countersSound (controlExpiry s) := by
  rw [countersSound_iff] at sound ⊢
  simpa [xckCountList] using sound

/-- Settles O14: the raisings, the condition latches and the counters of every operation. -/
theorem stepKeepsReportsSound : Obligations.StepKeepsReportsSound := by
  have parts (s : State) : (eventsSound s ∧ latchesSound s ∧ countersSound s) ↔ ReportsSound s ∧ countersSound s := by
    unfold ReportsSound
    rw [eventsSound_iff]
    exact and_assoc.symm
  refine keptByStep_of_move (fun s q sound => sound)
    (fun s x y _ => (parts _).2 ⟨reportsSound_powerOn _ x y _, countersSound_powerOn _ x y _⟩) ?_ ?_ ?_
  · intro s t sound
    obtain ⟨events, latches, counters⟩ := sound
    refine ⟨by simpa [eventsSound] using events, by simpa [latchesSound] using latches, ?_⟩
    rw [countersSound_iff] at counters ⊢
    simpa [xckCountList] using counters
  · intro s sound
    have ⟨reports, counters⟩ := (parts s).1 sound
    exact (parts _).2 ⟨reportsSound_controlExpiry reports, countersSound_controlExpiry counters⟩
  · intro s s' sound move
    have ⟨reports, counters⟩ := (parts s).1 sound
    exact (parts _).2 ⟨move.keeps_reportsSound reports, move.keeps_countersSound counters⟩

/-! ## Reset -/

theorem splitSound_powerOn (serial : BitVec 64) (x y : Bool) (q : List Instr) :
    splitSound (State.powerOn serial x y q) := splitHolds_rest _ _ _

theorem previewSound_powerOn (serial : BitVec 64) (x y : Bool) (q : List Instr) :
    previewSound (State.powerOn serial x y q) :=
  (previewSound_iff _).2 ⟨fun _ _ boundP => (nomatch boundP), fun _ => rfl, fun _ => rfl, queueSound_nil, queueSound_nil⟩

/-- Settles O5: reset is POWER_ON's state, which meets each invariant. -/
theorem resetMeetsEveryInvariant : Obligations.ResetMeetsEveryInvariant :=
  have reports := reportsSound_powerOn 1 false false []
  ⟨rfl, odometrySound_powerOn _ _ _ _, sensingSound_powerOn _ _ _ _, linkSound_powerOn _ _ _ _,
    (rosterSound_iff _).2 RclSound.powerOn, startSound_powerOn _ _ _ _, previewSound_powerOn _ _ _ _,
    bindingSound_powerOn _ _ _ _, splitSound_powerOn _ _ _ _, configSound_powerOn (by decide) _ _ _,
    commandSound_powerOn _ _ _ _, driveSound_powerOn _ _ _ _, failureSound_powerOn _ _ _ _,
    (eventsSound_iff _).2 reports.1, reports.2, countersSound_powerOn _ _ _ _⟩

end Sys2Proof.Machine
end

section
/-! SUPPORT. SRC: its judgement, the end of one of its steps as one equation, and when it evaluates. -/

namespace Sys2Proof.Machine

/-! ## The end of a step (R86, R106, R117) -/

/-- The event set with one more raising. -/
def raiseIn (d : Detail) (es : EventSet) : EventSet := es.setRecord (kindOf d) (raisedRecord d (es.record (kindOf d)))

/-- The event set after a step that changed a binding: SPLIT of a set latch, then SOURCE-CHANGE. -/
def changeEvents (cause : SourceCause) (before : Identity) (p q : Option Source) (s : State) : EventSet :=
  raiseIn (.sourceChange cause before (slotIdentity p) (slotIdentity q))
    (if s.xck.splitLatch then raiseIn (.split .clear .binding 0 (slotIdentity p) (slotIdentity q)) s.svc.events
    else s.svc.events)

theorem changeEvents_eq (cause : SourceCause) (before : Identity) (p q : Option Source) (s : State) :
    changeEvents cause before p q s =
      ((if s.xck.splitLatch then s.raise (.split .clear .binding 0 (slotIdentity p) (slotIdentity q)) else s).raise
        (.sourceChange cause before (slotIdentity p) (slotIdentity q))).svc.events := by
  unfold changeEvents; split <;> rfl

theorem endStep_of_unchanged {x : Slots} (unchanged : x.changed = false) (cause : SourceCause) (before : Identity)
    (s : State) : endStep cause before x s = putSlots x s := by
  unfold endStep; rw [unchanged]; rfl

theorem endStep_of_changed {x : Slots} (changed : x.changed = true) (cause : SourceCause) (before : Identity) (s : State) :
    endStep cause before x s =
      { putSlots x s with
        xck := { s.xck with splitCounter := 0, splitLatch := false }
        svc.events := changeEvents cause before x.p x.s s } := by
  unfold endStep changeEvents resetSplit raiseSourceChange
  rw [changed]
  cases latch : s.xck.splitLatch
  · simp only [if_true, putSlots, latch]
    rfl
  · simp only [if_true, putSlots, latch]
    rfl

theorem changeEvents_sourceChange (cause : SourceCause) (before : Identity) (p q : Option Source) (s : State) :
    (changeEvents cause before p q s).sourceChange =
      (s.raise (.sourceChange cause before (slotIdentity p) (slotIdentity q))).svc.events.sourceChange := by
  unfold changeEvents; split <;> rfl

theorem changeEvents_split (cause : SourceCause) (before : Identity) (p q : Option Source) (s : State) :
    (changeEvents cause before p q s).split =
      (if s.xck.splitLatch then s.raise (.split .clear .binding 0 (slotIdentity p) (slotIdentity q)) else s).svc.events.split := by
  unfold changeEvents; split <;> rfl

/-! ## The judgement (R74 to R77) -/

theorem stationsAhead_eq (s : State) :
    stationsAhead s = (judgedEntries s.rcl).filter fun x => decide
      (s.odo.direction = .towardA ∧ x.side = .port .a ∨ s.odo.direction = .towardB ∧ x.side = .port .b) := by
  unfold stationsAhead
  cases s.odo.direction <;> simp [sideAhead]

theorem isBound_iff (src : Src) (id : Identity) :
    isBound src id = true ↔
      (∃ b, src.slotP = some b ∧ b.identity = id) ∨ ∃ b, src.slotS = some b ∧ b.identity = id := by
  simp [isBound, Option.any_eq_true]

theorem callsFull_iff (src : Src) (new : List Identity) :
    callsFull src new = true ↔
      (∃ id ∈ src.eligible, isBound src id = true ∧ id ∉ new) ∨
        ∃ id ∈ new, ¬isBound src id = true ∧ id ∉ src.eligible := by
  simp [callsFull]

theorem rulesApply_iff (r : Rcl) : rulesApply r = true ↔ r.trainState = .formed ∨ r.trainState = .forming := by
  simp [rulesApply]

/-- The full evaluation of a judgement, over the slots as the step finds them. -/
def fullStep (s : State) : State :=
  endStep .eligibility (slotIdentity s.src.slotP)
    (fullEvaluation (groundsOf (judgeSources s)) (slotsOf s)) (judgeSources s)

/-- The promotion check of a judgement, over the slots as the step finds them. -/
def promotionStep (s : State) : State :=
  endStep .promotion (slotIdentity s.src.slotP)
    (promotionCheck (groundsOf (judgeSources s)) (slotsOf s)) (judgeSources s)

theorem judge_of_no_rules {s : State} (off : rulesApply s.rcl = false) :
    judgeAtFrame s = judgeSources s ∧ judgeAtExpiry s = judgeSources s := by
  simp [judgeAtFrame, judgeAtExpiry, off]

theorem judge_of_full {s : State} (on : rulesApply s.rcl = true)
    (full : callsFull s.src (judgeSources s).src.eligible = true) :
    judgeAtFrame s = fullStep s ∧ judgeAtExpiry s = fullStep s := by
  unfold judgeAtFrame judgeAtExpiry fullStep
  dsimp only
  rw [on, full]
  exact ⟨rfl, rfl⟩

theorem judge_of_no_full {s : State} (on : rulesApply s.rcl = true)
    (notFull : callsFull s.src (judgeSources s).src.eligible = false) :
    judgeAtFrame s = judgeSources s ∧ judgeAtExpiry s = promotionStep s := by
  unfold judgeAtFrame judgeAtExpiry promotionStep
  dsimp only
  rw [on, notFull]
  exact ⟨rfl, rfl⟩

/-- Settles O41: when SRC evaluates, by whether the rules apply and the judgement calls for a full evaluation; and the end
of a step, by whether it changed a binding. -/
theorem bindingChangeIsHandedOnAndReported : Obligations.BindingChangeIsHandedOnAndReported := by
  refine ⟨⟨rfl, fun _ => rfl⟩, fun s => ?_, fun cause before x s => ?_⟩
  · intro v isBoundAs rules calls g found full risen places ahead
    have rules_iff : rulesApply s.rcl = true ↔ rules := rulesApply_iff s.rcl
    have calls_iff : callsFull s.src v.src.eligible = true ↔ calls := by
      rw [callsFull_iff]
      simp only [isBound_iff]
      rfl
    have stations : stationsAhead s = ahead := stationsAhead_eq s
    refine ⟨?_, fun none => ?_, fun apply full => ?_, fun apply notFull => ?_⟩
    · have flag : (stationsAhead s).isEmpty = decide (ahead = []) := by
        rw [stations, Bool.eq_iff_iff, List.isEmpty_iff, decide_eq_true_eq]
      rw [← flag]
      rfl
    · exact judge_of_no_rules (Bool.eq_false_iff.2 (mt rules_iff.1 none))
    · exact judge_of_full (rules_iff.2 apply) (calls_iff.2 full)
    · exact judge_of_no_full (rules_iff.2 apply) (Bool.eq_false_iff.2 (mt calls_iff.1 notFull))
  · intro v written
    refine ⟨fun unchanged => endStep_of_unchanged unchanged cause before s, fun changed => ?_⟩
    have step : v = { putSlots x s with
        xck := { s.xck with splitCounter := 0, splitLatch := false }
        svc.events := changeEvents cause before x.p x.s s } := endStep_of_changed changed cause before s
    have source : v.svc.events.sourceChange = (s.raise
        (.sourceChange cause before (slotIdentity x.p) (slotIdentity x.s))).svc.events.sourceChange := by
      rw [step]; exact changeEvents_sourceChange _ _ _ _ _
    have split : v.svc.events.split = (if s.xck.splitLatch then
        s.raise (.split .clear .binding 0 (slotIdentity x.p) (slotIdentity x.s)) else s).svc.events.split := by
      rw [step]; exact changeEvents_split _ _ _ _ _
    refine ⟨by rw [step]; rfl, by rw [step]; rfl, by rw [step], ?_, ?_, fun set => ?_, fun clear => ?_, ?_, ?_⟩
    · rw [source]
      exact raisedRecord_pending _ _
    · rw [source]
      exact raisedRecord_detail (by simp [kindOf]) _
    · rw [split, if_pos set]
      exact raisedRecord_detail (by simp [kindOf]) _
    · rw [split, clear]
      rfl
    · rw [step]
      exact changeEvents_eq _ _ _ _ _
    · rw [step]
      rfl

end Sys2Proof.Machine
end

section
/-! SUPPORT. SRC: the conditions of eligibility, the ranking, and what covering means. -/

namespace Sys2Proof.Machine

/-! ## The conditions (R75) -/

theorem farEnough_iff (offset : Option Int) : farEnough offset = true ↔ ∃ d, offset = some d ∧ 30000 ≤ d := by
  cases offset with
  | none => simp [farEnough]
  | some d =>
    rw [farEnough, decide_eq_true_eq, leastOffset]
    simp

theorem reportsWell_iff (now : Nat) (x : RosterEntry) :
    reportsWell now x = true ↔
      ∃ c, x.lastCarState = some c ∧ now - c.time ≤ 1000000 ∧ c.flags.getLsbD 0 = false := by
  unfold reportsWell
  cases x.lastCarState <;> simp [isWithin, ms]

theorem samplesWell_iff (now : Nat) (x : RosterEntry) :
    samplesWell now x = true ↔ (∃ time, x.lastValid = some time ∧ now - time ≤ 250000) ∧ x.invalidCount < 3 := by
  unfold samplesWell
  cases x.lastValid <;> simp [isWithin, ms]

/-- No entry nearer on the same side is unconfigured. -/
theorem not_any_blocks_iff (l : List RosterEntry) (x : RosterEntry) :
    l.any (blocks x) = false ↔
      ∀ y ∈ l, y.side = x.side → y.hop.getD 0 < x.hop.getD 0 → y.unconfigured = false := by
  simp only [List.any_eq_false, blocks, Bool.and_eq_true, decide_eq_true_eq, not_and, Bool.not_eq_true]
  exact ⟨fun h y mem side hop => h y mem ⟨side, hop⟩, fun h y mem both => h y mem both.1 both.2⟩

theorem isEligible_iff (s : State) (x : RosterEntry) :
    isEligible s x = true ↔
      s.svc.unconfigured = false ∧ (∃ d, judgedOffset s x = some d ∧ 30000 ≤ d) ∧
      (x.unconfigured = false ∧ ∀ y ∈ judgedEntries s.rcl, y.side = x.side → y.hop.getD 0 < x.hop.getD 0 →
        y.unconfigured = false) ∧
      (∃ c, (livenessEntry s.rcl x).lastCarState = some c ∧ s.now - c.time ≤ 1000000 ∧ c.flags.getLsbD 0 = false) ∧
      (∃ time, (livenessEntry s.rcl x).lastValid = some time ∧ s.now - time ≤ 250000) ∧
      (livenessEntry s.rcl x).invalidCount < 3 := by
  simp only [isEligible, Bool.and_eq_true, Bool.not_eq_true', farEnough_iff, not_any_blocks_iff, reportsWell_iff,
    samplesWell_iff, and_assoc]

theorem mem_stationsAhead_iff (s : State) (x : RosterEntry) :
    x ∈ stationsAhead s ↔ x ∈ judgedEntries s.rcl ∧
      (s.odo.direction = .towardA ∧ x.side = .port .a ∨ s.odo.direction = .towardB ∧ x.side = .port .b) := by
  rw [stationsAhead_eq, List.mem_filter, decide_eq_true_eq]

theorem mem_eligibleEntries_iff (s : State) (x : RosterEntry) :
    x ∈ eligibleEntries s ↔ x ∈ stationsAhead s ∧ isEligible s x = true := List.mem_filter

/-- The offset in use of an identity: P's, or S's where P holds another. -/
theorem boundOffset_eq (src : Src) (id : Identity) :
    boundOffset src id =
      match src.slotP.filter fun x => x.identity = id, src.slotS.filter fun x => x.identity = id with
      | some b, _ => some b.offset
      | none, some b => some b.offset
      | none, none => none := by
  unfold boundOffset
  simp only [List.filterMap_cons, List.filterMap_nil]
  cases src.slotP.filter fun x => x.identity = id <;> cases src.slotS.filter fun x => x.identity = id <;> rfl

theorem boundOffset_far_iff (src : Src) (id : Identity) :
    (∃ d, boundOffset src id = some d ∧ 30000 ≤ d) ↔
      (∃ b, src.slotP = some b ∧ b.identity = id ∧ 30000 ≤ b.offset) ∨
      (¬∃ b, src.slotP = some b ∧ b.identity = id) ∧ ∃ b, src.slotS = some b ∧ b.identity = id ∧ 30000 ≤ b.offset := by
  rw [boundOffset_eq]
  by_cases boundP : ∃ b, src.slotP = some b ∧ b.identity = id
  · obtain ⟨p, isP, same⟩ := boundP
    simp [isP, same, Option.filter_some]
  · have noP : (src.slotP.filter fun x => x.identity = id) = none := by
      rw [Option.filter_eq_none_iff]
      exact fun b isP same => boundP ⟨b, isP, by simpa using same⟩
    rw [noP]
    have noFar : ¬∃ b, src.slotP = some b ∧ b.identity = id ∧ 30000 ≤ b.offset :=
      fun ⟨b, isP, same, _⟩ => boundP ⟨b, isP, same⟩
    simp only [noFar, boundP, false_or, not_false_eq_true, true_and]
    cases isS : src.slotS with
    | none => simp
    | some c => by_cases same : c.identity = id <;> simp [same, Option.filter_some]

/-- The conditions in the order of the table. -/
theorem eligible_iff (s : State) (x : RosterEntry) :
    x ∈ eligibleEntries s ↔ s.svc.unconfigured = false ∧
      (x ∈ judgedEntries s.rcl ∧
        (s.odo.direction = .towardA ∧ x.side = .port .a ∨ s.odo.direction = .towardB ∧ x.side = .port .b)) ∧
      (∃ d, judgedOffset s x = some d ∧ 30000 ≤ d) ∧
      (x.unconfigured = false ∧ ∀ y ∈ judgedEntries s.rcl, y.side = x.side → y.hop.getD 0 < x.hop.getD 0 →
        y.unconfigured = false) ∧
      (∃ c, (livenessEntry s.rcl x).lastCarState = some c ∧ s.now - c.time ≤ 1000000 ∧ c.flags.getLsbD 0 = false) ∧
      (∃ time, (livenessEntry s.rcl x).lastValid = some time ∧ s.now - time ≤ 250000) ∧
      (livenessEntry s.rcl x).invalidCount < 3 := by
  rw [mem_eligibleEntries_iff, mem_stationsAhead_iff, isEligible_iff]
  exact and_left_comm

/-- Settles O36: the conditions one by one, over the places that the train state gives. -/
theorem eligibleMeansEveryCondition : Obligations.EligibleMeansEveryCondition := by
  intro s x ahead configured lively bound far
  refine ⟨fun formed => ?_, fun forming => ?_, fun notFormed notForming => ?_⟩
  · rw [eligible_iff]
    simp only [judgedEntries, judgedOffset, livenessEntry, formed, reduceCtorEq, if_false]
    exact Iff.rfl
  · rw [eligible_iff]
    simp only [judgedEntries, judgedOffset, livenessEntry, forming, if_true]
    rw [boundOffset_far_iff]
  · refine eligibleEntries_eq_nil (.inr ?_)
    unfold judgedEntries
    cases state : s.rcl.trainState <;> simp_all

/-! ## The ranking (R77) -/

/-- The order of rank as a relation. -/
def Ranks (x y : Source) : Prop := ranksAhead x y = true

theorem ranks_iff (x y : Source) :
    Ranks x y ↔ y.offset < x.offset ∨ x.offset = y.offset ∧ x.identity.toNat ≤ y.identity.toNat := by
  simp [Ranks, ranksAhead]

/-- The model's ranking is the library's insertion sort by rank. -/
theorem rankSources_eq (l : List Source) : rankSources l = l.insertionSort fun x y => ranksAhead x y = true := by
  have insert (x : Source) (r : List Source) :
      insertRanked x r = r.orderedInsert (fun x y => ranksAhead x y = true) x := by
    induction r with
    | nil => rfl
    | cons y r ih => rw [insertRanked, List.orderedInsert_cons, ih]
  induction l with
  | nil => rfl
  | cons x r ih => rw [rankSources, insert, ih, List.insertionSort_cons]

theorem rankSources_perm (l : List Source) : (rankSources l).Perm l := by
  rw [rankSources_eq]; exact List.perm_insertionSort _ l

theorem rankSources_pairwise (l : List Source) : (rankSources l).Pairwise Ranks := by
  rw [rankSources_eq]
  change List.Pairwise (fun x y => ranksAhead x y = true) _
  have total : Std.Total fun x y => ranksAhead x y = true := ⟨fun x y => by
    change Ranks x y ∨ Ranks y x
    rw [ranks_iff, ranks_iff]
    omega⟩
  have transitive : IsTrans Source fun x y => ranksAhead x y = true := ⟨fun x y z first second => by
    change Ranks x z
    rw [ranks_iff]
    have := (ranks_iff x y).1 first
    have := (ranks_iff y z).1 second
    omega⟩
  exact List.pairwise_insertionSort _ l

/-- The sources of a list of entries, each with the offset by which it is judged. -/
def offsetSources (s : State) (l : List RosterEntry) : List Source :=
  l.filterMap fun x => (judgedOffset s x).map fun d => ⟨x.identity, d⟩

theorem newRanking_of_not_forming {s : State} (notForming : s.rcl.trainState ≠ .forming) :
    newRanking s = rankSources (offsetSources s (eligibleEntries s)) := by
  unfold newRanking
  cases state : s.rcl.trainState <;> first | rfl | exact absurd state notForming

/-- An eligible station has an offset, so that each has its source. -/
theorem map_identity_offsetSources {s : State} {l : List RosterEntry} (judged : ∀ x ∈ l, (judgedOffset s x).isSome = true) :
    (offsetSources s l).map Source.identity = l.map RosterEntry.identity := by
  induction l with
  | nil => rfl
  | cons x l ih =>
    obtain ⟨d, offset⟩ := Option.isSome_iff_exists.1 (judged x (List.mem_cons_self))
    have rest := ih fun y mem => judged y (List.mem_cons_of_mem x mem)
    unfold offsetSources at rest ⊢
    simp [offset, rest]

/-- Settles O37: the ranking sorts the sources of the eligible entries. -/
theorem rankingOrdersByOffset : Obligations.RankingOrdersByOffset := by
  intro s v
  refine ⟨fun forming => ?_, fun notForming => ?_⟩
  · change newRanking s = _
    unfold newRanking
    rw [forming]
  · have ranking : v.src.ranking = rankSources (offsetSources s (eligibleEntries s)) :=
      newRanking_of_not_forming notForming
    rw [ranking]
    refine ⟨?_, (rankSources_pairwise _).imp fun {x y} => (ranks_iff x y).1, fun b mem => ?_⟩
    · refine ((rankSources_perm _).map _).trans ?_
      refine .of_eq (map_identity_offsetSources fun x mem => ?_)
      obtain ⟨-, ⟨d, offset, -⟩, -⟩ := (isEligible_iff s x).1 ((mem_eligibleEntries_iff s x).1 mem).2
      exact Option.isSome_iff_exists.2 ⟨d, offset⟩
    · have source := (rankSources_perm _).subset mem
      simp only [offsetSources, List.mem_filterMap, Option.map_eq_some_iff] at source
      obtain ⟨x, eligible, d, offset, rfl⟩ := source
      refine ⟨x, eligible, rfl, ?_⟩
      unfold judgedOffset at offset
      cases state : s.rcl.trainState <;> simp_all

/-! ## Covering and consumption (R79, R101) -/

theorem covering_iff (x : Slots) (lp : Distance) :
    covering (some lp) x = true ↔ x.s.isSome = true ∧ ∃ h q, x.queueS = h :: q ∧ isAfter h.due lp = false := by
  unfold covering
  cases x.s <;> cases x.queueS <;> simp

theorem covering_none (x : Slots) : covering none x = false := by
  unfold covering
  cases x.s <;> cases x.queueS <;> rfl

theorem consume_cons_of_after {e' : PreviewEntry} {lp : Distance} (after : isAfter e'.due lp = true) (e : PreviewEntry)
    (q : List PreviewEntry) : consume lp (e :: e' :: q) = e :: e' :: q := by
  rw [consume, if_pos after]

theorem consume_cons_of_not_after {e' : PreviewEntry} {lp : Distance} (notAfter : isAfter e'.due lp = false)
    (e : PreviewEntry) (q : List PreviewEntry) : consume lp (e :: e' :: q) = consume lp (e' :: q) := by
  rw [consume, notAfter]; rfl

/-- What consumption takes and what it leaves. -/
theorem consume_spec (lp : Distance) (q : List PreviewEntry) :
    (∃ gone, q = gone ++ consume lp q ∧
      ∀ i, i + 1 ≤ gone.length → ∀ e, q[i + 1]? = some e → isAfter e.due lp = false) ∧
    (consume lp q).getLast? = q.getLast? ∧
    ∀ h e rest, consume lp q = h :: e :: rest → isAfter e.due lp = true := by
  induction q with
  | nil => exact ⟨⟨[], rfl, fun i le => absurd le (by simp)⟩, rfl, fun h e rest eq => nomatch eq⟩
  | cons e q ih =>
    cases q with
    | nil => exact ⟨⟨[], rfl, fun i le => absurd le (by simp)⟩, rfl, fun h e rest eq => nomatch eq⟩
    | cons e' q =>
      cases after : isAfter e'.due lp with
      | true =>
        rw [consume_cons_of_after after]
        refine ⟨⟨[], rfl, fun i le => absurd le (by simp)⟩, rfl, fun h x rest eq => ?_⟩
        cases eq
        exact after
      | false =>
        rw [consume_cons_of_not_after after]
        obtain ⟨⟨gone, split, taken⟩, last, rest⟩ := ih
        refine ⟨⟨e :: gone, by rw [List.cons_append, ← split], fun i le x at_i => ?_⟩, ?_, rest⟩
        · cases i with
          | zero =>
            cases at_i
            exact after
          | succ i => exact taken i (by simpa using le) x (by simpa using at_i)
        · rw [last]; rfl

/-- A head at or before the point is taken for the sake of another alone. -/
theorem consume_head_not_after {lp : Distance} (e : PreviewEntry) (q : List PreviewEntry)
    (notAfter : isAfter e.due lp = false) : ∃ h rest, consume lp (e :: q) = h :: rest ∧ isAfter h.due lp = false := by
  induction q generalizing e with
  | nil => exact ⟨e, [], rfl, notAfter⟩
  | cons e' q ih =>
    cases after : isAfter e'.due lp with
    | true => exact ⟨e, e' :: q, consume_cons_of_after after e q, notAfter⟩
    | false => rw [consume_cons_of_not_after after]; exact ih e' after

/-- Settles O38: what consumption takes and leaves, and the head that it leaves where the point covers. -/
theorem coveringMeansHeadNotAfterPoint : Obligations.CoveringMeansHeadNotAfterPoint := by
  refine ⟨fun x lp => ⟨covering_iff x lp, covering_none x, fun ordered => ?_, fun s => rfl⟩, consume_spec⟩
  have kept (same : consume lp x.queueS = x.queueS) :
      covering (some lp) { x with queueS := consume lp x.queueS } = covering (some lp) x := by rw [same]
  cases queue : x.queueS with
  | nil => exact queue ▸ kept (by rw [queue]; rfl)
  | cons h q =>
    cases q with
    | nil => exact queue ▸ kept (by rw [queue]; rfl)
    | cons e q =>
      cases after : isAfter e.due lp with
      | true => exact queue ▸ kept (by rw [queue, consume_cons_of_after after])
      | false =>
        have headNotAfter : isAfter h.due lp = false := by
          by_contra headAfter
          exact absurd (ordered h e q queue (by simpa using headAfter)) (by simp [after])
        obtain ⟨front, rest, left, notAfter⟩ := consume_head_not_after h (e :: q) headNotAfter
        rw [Bool.eq_iff_iff, covering_iff, covering_iff, queue]
        exact and_congr_right fun _ => ⟨fun _ => ⟨h, e :: q, rfl, headNotAfter⟩, fun _ => ⟨front, rest, left, notAfter⟩⟩

end Sys2Proof.Machine
end

section
/-! SUPPORT. The judgement of the roster at the end of the quiet time, and the formation that follows. -/

namespace Sys2Proof.Machine

/-! ## The judgement of the roster (R59) -/

theorem sideComplete_eq (roster : List RosterEntry) (e : End) :
    sideComplete roster e = decide (∀ k < (roster.filter fun x => x.side = .port e).length,
      ((roster.filter fun x => x.side = .port e).any fun x => x.hop == some k) = true) := by
  rw [Bool.eq_iff_iff, decide_eq_true_eq]
  simp only [sideComplete, List.all_eq_true, List.mem_range]
  rfl

/-- What the judgement leads to: FORMING where the roster is incomplete. -/
def quietOutcome (r : Rcl) : TrainState :=
  if r.duplicateFlag then .conflict
  else if r.overflowFlag || r.roster.any fun x => x.hop == some 15 then .oversize
  else if sideComplete r.roster .a && sideComplete r.roster .b then .formed else .forming

theorem judgeRoster_eq (r : Rcl) :
    judgeRoster r = if quietOutcome r = .forming then none else some (quietOutcome r) := by
  unfold judgeRoster quietOutcome
  split
  · rfl
  · split
    · rfl
    · split <;> rfl

theorem quietOutcome_cases (r : Rcl) :
    quietOutcome r = .conflict ∨ quietOutcome r = .oversize ∨ quietOutcome r = .formed ∨ quietOutcome r = .forming := by
  unfold quietOutcome
  split
  · exact .inl rfl
  · split
    · exact .inr (.inl rfl)
    · split
      · exact .inr (.inr (.inl rfl))
      · exact .inr (.inr (.inr rfl))

/-- The quiet timer's expiry by the outcome. -/
theorem expireQuietTimer_eq {s : State} (runs : s.rcl.quietTimer.isSome = true) :
    expireQuietTimer s =
      if quietOutcome s.rcl = .forming then takeTrigger { s with rcl.quietTimer := none }
      else if quietOutcome s.rcl = .formed then formTrain { s with rcl.quietTimer := none }
      else formWithout (quietOutcome s.rcl) { s with rcl.quietTimer := none } := by
  unfold expireQuietTimer endQuietTimer
  rw [if_pos runs, judgeRoster_eq]
  obtain is | is | is | is := quietOutcome_cases s.rcl <;> rw [is] <;> rfl

/-! ## The formation (R60) -/

/-- The state that a formation hands to SRC: RCL formed anew, and ROLL-DONE raised. -/
def formationState (outcome : TrainState) (roster : List RosterEntry) (s : State) : State :=
  raiseRollDone { s with
    rcl.previousRoster := [], rcl.trainState := outcome, rcl.roster := roster, rcl.quietTimer := none }

theorem formTrain_eq (s : State) :
    formTrain { s with rcl.quietTimer := none } =
      takeNeighbours (hopZero (formedRoster s.svc.config.identity s.rcl.roster) .a)
        (hopZero (formedRoster s.svc.config.identity s.rcl.roster) .b)
        (sourceFormed (formationState .formed (formedRoster s.svc.config.identity s.rcl.roster) s)) := rfl

theorem formWithout_eq (outcome : TrainState) (s : State) :
    formWithout outcome { s with rcl.quietTimer := none } =
      takeNeighbours none none (sourceNotFormed (formationState outcome s.rcl.roster s)) := rfl

/-- What SRC's step at a formation leaves of ROLL-DONE. -/
theorem rollDone_of_sourceStep {x y : EventSet} (chain : RaisesOnly ofSourceStep x y) : y.rollDone = x.rollDone :=
  chain.record_eq (k := .rollDone) (by simp [ofSourceStep])

/-- The ROLL-DONE that the formation raises, with the outcome, the epoch and the station count, stands after SRC's step. -/
theorem rollDone_of_formation {outcome : TrainState} {roster before : List RosterEntry} {s w : State}
    (step : RaisesOnly ofSourceStep (formationState outcome roster s).svc.events w.svc.events)
    (length : roster.length = before.length) :
    w.svc.events.rollDone =
      (s.raise (.rollDone outcome s.rcl.currentEpoch (min 255 (before.length + s.rcl.refusedCount)))).svc.events.rollDone := by
  rw [rollDone_of_sourceStep step, ← length]; rfl

theorem raised_rollDone (outcome : TrainState) (epoch : Epoch) (n : Nat) (s : State) :
    (s.raise (.rollDone outcome epoch n)).svc.events.rollDone.pending = true ∧
    (s.raise (.rollDone outcome epoch n)).svc.events.rollDone.detail = some (.rollDone outcome epoch n) :=
  ⟨raisedRecord_pending _ _, raisedRecord_detail (by simp [kindOf]) _⟩

theorem formationState_eq (outcome : TrainState) (roster : List RosterEntry) (s : State) :
    formationState outcome roster s = { s with
      rcl := (formationState outcome roster s).rcl
      svc.events.rollDone := (formationState outcome roster s).svc.events.rollDone } := rfl

theorem length_formedRoster (own : Identity) (roster : List RosterEntry) :
    (formedRoster own roster).length = roster.length := by
  simpa using (formedRoster_map_perm (g := RosterEntry.identity) (fun _ _ _ => rfl) (fun _ _ _ => rfl) own roster).length_eq

theorem sourceNotFormed_eq (s : State) :
    sourceNotFormed s = endStep .formation (slotIdentity s.src.slotP)
      ⟨none, none, [], [], s.src.slotP.isSome || s.src.slotS.isSome⟩
      { s with src := { s.src with eligible := [], ranking := [], headFlag := true } } := rfl

theorem takeNeighbours_svc (x y : Option Identity) (s : State) : (takeNeighbours x y s).svc = s.svc := rfl

/-- A side's neighbour after a formation depends on the neighbour before it alone. -/
theorem takeNeighbours_neighbours (x y : Option Identity) {s v : State} (cso : v.cso = s.cso) :
    (takeNeighbours x y v).cso.neighbourA = newNeighbour x s.cso.neighbourA ∧
    (takeNeighbours x y v).cso.neighbourB = newNeighbour y s.cso.neighbourB := by
  rw [← cso]; exact ⟨rfl, rfl⟩

/-- Out of FORMED no source is bound and none eligible; where one was bound, the step reports it. -/
theorem sourceNotFormed_effect (outcome : TrainState) (roster : List RosterEntry) (s : State) :
    let v := sourceNotFormed (formationState outcome roster s)
    let bound := s.src.slotP.isSome || s.src.slotS.isSome
    v.src = ⟨none, none, [], [], true⟩ ∧ v.pvq.queueP = [] ∧ v.pvq.queueS = [] ∧
    v.svc.events.sourceChange =
      (if bound then s.raise (.sourceChange .formation (slotIdentity s.src.slotP) 0 0) else s).svc.events.sourceChange ∧
    v.xck = (if bound then { s.xck with splitCounter := 0, splitLatch := false } else s.xck) ∧
    v.svc.events.split =
      (if bound ∧ s.xck.splitLatch = true then s.raise (.split .clear .binding 0 0 0) else s).svc.events.split := by
  have bound : ((formationState outcome roster s).src.slotP.isSome || (formationState outcome roster s).src.slotS.isSome) =
    (s.src.slotP.isSome || s.src.slotS.isSome) := rfl
  dsimp only
  rw [sourceNotFormed_eq, bound]
  cases s.src.slotP.isSome || s.src.slotS.isSome with
  | false =>
    rw [endStep_of_unchanged rfl]
    exact ⟨rfl, rfl, rfl, rfl, rfl, by simp only [Bool.false_eq_true, false_and, if_false]; rfl⟩
  | true =>
    rw [endStep_of_changed rfl]
    refine ⟨rfl, rfl, rfl, ?_, rfl, ?_⟩
    · rw [changeEvents_sourceChange]; rfl
    · rw [changeEvents_split]
      cases latch : s.xck.splitLatch <;> simp only [formationState, raiseRollDone, State.raise_xck, latch] <;> rfl

/-! ## The bound sources in a new roster (R88) -/

section
variable {s : State} {x : Slots} {b : Source} {d : Int}

theorem far_iff (d e : Int) : 100 < (d - e).natAbs ↔ ¬|d - e| ≤ 100 := by
  rw [Int.abs_eq_natAbs]; omega

theorem reoffsetP_of_missing (bound : x.p = some b) (missing : newOffset s b = none) : reoffsetP s x = x := by
  unfold reoffsetP
  simp only [bound, missing]

theorem reoffsetP_of_found (bound : x.p = some b) (found : newOffset s b = some d) :
    reoffsetP s x = if |d - b.offset| ≤ 100 then { x with p := some ⟨b.identity, d⟩ }
      else { x with p := none, queueP := [], changed := true } := by
  unfold reoffsetP
  simp only [bound, found, far_iff, emptyP, Option.isSome_some, Bool.or_true]
  split <;> simp_all

theorem reoffsetS_of_missing (bound : x.s = some b) (missing : newOffset s b = none) : reoffsetS s x = x := by
  unfold reoffsetS
  simp only [bound, missing]

theorem reoffsetS_of_found (bound : x.s = some b) (found : newOffset s b = some d) :
    reoffsetS s x = if |d - b.offset| ≤ 100 then { x with s := some ⟨b.identity, d⟩ }
      else { x with s := none, queueS := [], changed := true } := by
  unfold reoffsetS
  simp only [bound, found, far_iff, emptyS, Option.isSome_some, Bool.or_true]
  split <;> simp_all

end

/-- Settles O33: the outcome of the judgement, then the formation; and the bound sources in the new roster. -/
theorem quietTimerJudgesTheRoster : Obligations.QuietTimerJudgesTheRoster := by
  refine ⟨fun t s => ?_, fun s x => ?_⟩
  · intro u side complete outcome formed hopZeroOf succeeds
    have complete_eq (e : End) : complete e = sideComplete u.rcl.roster e := (sideComplete_eq _ e).symm
    have outcome_eq : outcome = quietOutcome u.rcl := by
      simp only [outcome, complete_eq, quietOutcome]
    have exec_eq : exec (.quietTimerExpiry t) s = .next (expireQuietTimer u) := exec_of_wf rfl s
    refine ⟨fun stopped => ?_, fun runs incomplete => ?_, fun runs ended => ?_⟩
    · rw [exec_eq, expireQuietTimer, stopped]; rfl
    · rw [exec_eq, expireQuietTimer_eq runs, ← outcome_eq, if_pos incomplete]
    · rw [exec_eq, completes_next, expireQuietTimer_eq runs, ← outcome_eq, if_neg ended]
      have raised := raised_rollDone outcome u.rcl.currentEpoch (min 255 (u.rcl.roster.length + u.rcl.refusedCount)) u
      clear_value outcome
      by_cases isFormed : outcome = .formed
      · subst isFormed
        simp only [if_true, formTrain_eq]
        set v := formationState .formed formed u
        have events : (sourceFormed v).svc.events.rollDone = _ :=
          rollDone_of_formation (sourceFormed_raises v) (length_formedRoster _ u.rcl.roster)
        have cso : (sourceFormed v).cso = u.cso := by simp [v, formationState, raiseRollDone]
        have rcl : (takeNeighbours (hopZero formed .a) (hopZero formed .b) (sourceFormed v)).rcl = v.rcl := by simp
        refine ⟨rcl, (takeNeighbours_neighbours _ _ cso).1, (takeNeighbours_neighbours _ _ cso).2, ?_, ?_, events, fun _ => ?_, fun other => absurd rfl other⟩
        · rw [takeNeighbours_svc, events]; exact raised.1
        · rw [takeNeighbours_svc, events]; exact raised.2
        · rw [takeNeighbours_svc, rcl, rollDone_of_sourceStep (sourceFormed_raises v), ← formationState_eq]
          rfl
      · simp only [if_neg isFormed, formWithout_eq]
        set v := formationState outcome u.rcl.roster u
        have events : (sourceNotFormed v).svc.events.rollDone = _ :=
          rollDone_of_formation (before := u.rcl.roster) (sourceNotFormed_raises v) rfl
        have cso : (sourceNotFormed v).cso = u.cso := by simp [v, formationState, raiseRollDone]
        have rcl : (takeNeighbours none none (sourceNotFormed v)).rcl = v.rcl := by simp
        refine ⟨rcl, (takeNeighbours_neighbours _ _ cso).1, (takeNeighbours_neighbours _ _ cso).2, ?_, ?_, events, fun other => absurd other isFormed, fun _ => ?_⟩
        · rw [takeNeighbours_svc, events]; exact raised.1
        · rw [takeNeighbours_svc, events]; exact raised.2
        · obtain ⟨src, queueP, queueS, sourceChange, xck, split⟩ := sourceNotFormed_effect outcome u.rcl.roster u
          rw [takeNeighbours_svc, rcl, rollDone_of_sourceStep (sourceNotFormed_raises v)]
          exact ⟨src, queueP, queueS, sourceChange, xck, split, rfl⟩
  · intro moved kept v g
    refine ⟨rfl, fun empty => by simp [reoffsetP, empty], fun empty => by simp [reoffsetS, empty], ?_, ?_⟩
    · intro b bound
      refine ⟨fun missing => reoffsetP_of_missing bound missing, fun d found => reoffsetP_of_found bound found⟩
    · intro b bound
      refine ⟨fun missing => reoffsetS_of_missing bound missing, fun d found => reoffsetS_of_found bound found⟩

end Sys2Proof.Machine
end

section
/-! SUPPORT. The sampling of the track at a pulse and at a poll, the end of the preview at a reversal, and the fall of the
speed. -/

namespace Sys2Proof.Machine

/-! ## TSU (R26 to R30) -/

theorem samplingConditions_iff (s : State) :
    samplingConditions s = true ↔
      s.svc.startState = .done ∧ s.odo.direction ≠ .unknown ∧ 5000 ≤ s.odo.speed := by
  simp only [samplingConditions, Bool.and_eq_true, decide_eq_true_eq, bne_iff_ne, and_assoc]
  rfl

/-- What TSU does at a pulse (R26, R28, R29). -/
theorem samplePulse_eq (s : State) :
    samplePulse s =
      if samplingConditions s then
        (if s.tsu.sampling = .idle then startInterval s
        else if intervalLength s < 2000 then s else publishSample s)
      else if s.tsu.sampling = .idle then s else discardInterval s := by
  unfold samplePulse
  cases s.tsu.sampling
  · rfl
  · simp only [reduceCtorEq, if_false]
    split
    · by_cases short : intervalLength s < 2000
      · rw [if_pos short, if_neg (by omega)]
      · rw [if_neg short, if_pos (by omega)]
    · rfl

/-- What TSU does at a poll expiry (R26, R29). -/
theorem samplePoll_eq (s : State) :
    samplePoll s =
      if samplingConditions s then (if s.tsu.sampling = .idle then startInterval s else s)
      else if s.tsu.sampling = .idle then s else discardInterval s := by
  unfold samplePoll
  cases s.tsu.sampling <;> rfl

theorem intervalMean_eq (u : Tsu) :
    intervalMean u = if u.intervalCount = 0 then 0 else max (-3000) (min 3000 (u.intervalSum.tdiv u.intervalCount)) := by
  unfold intervalMean limit clampInt truncDiv
  rfl

theorem pulseSense_ne_unknown (t2High : Bool) : pulseSense t2High ≠ .unknown := by cases t2High <;> simp [pulseSense]

/-- A pulse that is no reversal: ODO's changes, and what TSU does with them. -/
theorem tachometerPulse_of_no_reversal {sense : Direction} {s : State}
    (sameSense : s.odo.direction = .unknown ∨ s.odo.direction = sense) (crossCheckFirst : Bool) :
    tachometerPulse sense crossCheckFirst s = samplePulse { s with odo := takePulse sense s.odo } := by
  have noReversal : ¬isReversal sense s.odo = true := by
    rw [isReversal_eq_true_iff]
    tauto
  unfold tachometerPulse
  dsimp only
  rw [if_neg noReversal]

/-- Settles O17: a pulse that is no reversal is what TSU does with ODO's changes, case by case. -/
theorem pulseSamplesTheTrack : Obligations.PulseSamplesTheTrack := by
  intro t t2Before t2Now crossCheckFirst s u sense sameSense
  have direction : (takePulse sense u.odo).direction = sense := (takePulse_path sense u.odo).2.2.1
  set v : State := { u with odo := takePulse sense u.odo } with v_eq
  have pulse : tachometerPulse (pulseSense t2Before) crossCheckFirst u = samplePulse v :=
    tachometerPulse_of_no_reversal sameSense crossCheckFirst
  have odo : (samplePulse v).odo = v.odo := by simp
  have conditions : samplingConditions v = true ↔ u.svc.startState = .done ∧ 5000 ≤ v.odo.speed := by
    have known : v.odo.direction ≠ .unknown := direction ▸ pulseSense_ne_unknown t2Before
    rw [samplingConditions_iff]
    exact ⟨fun ⟨started, _, fast⟩ => ⟨started, fast⟩, fun ⟨started, fast⟩ => ⟨started, known, fast⟩⟩
  rw [exec_tachometerPulse, completes_next, pulse]
  dsimp only
  rw [odo, samplePulse_eq]
  by_cases samples : u.svc.startState = .done ∧ 5000 ≤ v.odo.speed
  · rw [if_pos samples, if_pos (conditions.2 samples)]
    split
    · rfl
    · rw [← intervalMean_eq]
      by_cases short : distanceDiff v.odo.odometer u.tsu.intervalStart < 2000
      · rw [if_pos short, if_pos (show intervalLength v < 2000 from short)]
      · rw [if_neg short, if_neg (show ¬intervalLength v < 2000 from short)]
        rfl
  · rw [if_neg samples, if_neg (mt conditions.1 samples)]
    split <;> rfl

/-! ## A poll, and the wraps of the capture counter -/

theorem evaluateSpeed_timed {o : Odo} {period v : Nat} (timed : o.measurement = .timed period v) :
    (evaluateSpeed o).speed =
      if period < sinceReference o then min v (o.pulseLength * 15625 / (16 * sinceReference o)) else v := by
  unfold evaluateSpeed
  rw [timed]
  rfl

theorem evaluateSpeed_of_not_timed {o : Odo} (notTimed : ∀ period v, o.measurement ≠ .timed period v) :
    evaluateSpeed o = o := by
  unfold evaluateSpeed
  split
  · next period v timed => exact absurd timed (notTimed period v)
  · rfl

/-- The evaluation moves the speed alone. -/
theorem evaluateSpeed_eq (o : Odo) : evaluateSpeed o = { o with speed := (evaluateSpeed o).speed } := by
  unfold evaluateSpeed
  split <;> rfl

theorem evaluateSpeed_path (o : Odo) :
    (evaluateSpeed o).direction = o.direction ∧ (evaluateSpeed o).odometer = o.odometer := by
  rw [evaluateSpeed_eq]; exact ⟨rfl, rfl⟩

theorem takeWrap_eq (o : Odo) :
    takeWrap o =
      if o.measurement = .void then o
      else if 8 ≤ o.overflowCount + 1 then { o with measurement := .void, captureCounter := 0, overflowCount := 0, speed := 0 }
      else { o with captureCounter := 0, overflowCount := o.overflowCount + 1 } := by
  unfold takeWrap
  split
  · rfl
  · by_cases eighth : 7 ≤ o.overflowCount
    · rw [if_pos eighth, if_pos (by omega)]
      rfl
    · rw [if_neg eighth, if_neg (by omega)]

/-- Settles O19: the wrap by the measurement and the count, the poll by the speed that it evaluates. -/
theorem speedFallsWithoutPulses : Obligations.SpeedFallsWithoutPulses := by
  intro t s u since
  refine ⟨?_, ?_⟩
  · rw [exec_of_wf rfl]
    change Host.Outcome.next { u with odo := takeWrap u.odo } = _
    rw [takeWrap_eq]
    split
    · rfl
    · split <;> rfl
  · set v : State := { u with odo := evaluateSpeed u.odo }
    have direction : v.odo.direction = u.odo.direction := (evaluateSpeed_path u.odo).1
    have odometer : v.odo.odometer = u.odo.odometer := (evaluateSpeed_path u.odo).2
    have polled : samplePoll v = { v with tsu := (samplePoll v).tsu } := by
      rw [samplePoll_eq]
      split
      · split <;> rfl
      · split <;> rfl
    have answered : exec (.pollExpiry t) s = .next { v with
        tsu := (samplePoll v).tsu, sns.wait := .waiting .bogie 0, sns.request := 1 :: bytes16 (checkOf [1]) } := by
      rw [show exec (.pollExpiry t) s = .next (sendSensorRequest .bogie (samplePoll v)) from rfl, polled]
      rfl
    rw [answered, completes_next]
    refine ⟨fun period w timed => evaluateSpeed_timed timed, fun notTimed => ?_, ?_, ?_⟩
    · exact congrArg Odo.speed (evaluateSpeed_of_not_timed notTimed)
    · dsimp only
      rw [samplePoll_eq]
      simp only [samplingConditions_iff, direction]
      split
      · split
        · exact congrArg (fun d => ({ u.tsu with
            sampling := .running, intervalStart := d, intervalSum := 0, intervalCount := 0 } : Tsu)) odometer
        · rfl
      · split <;> rfl
    · exact congrArg (fun o => { v with odo := o, tsu := (samplePoll v).tsu, sns.wait := .waiting .bogie 0
                                        sns.request := 1 :: bytes16 (checkOf [1]) }) (evaluateSpeed_eq u.odo)

/-! ## A reversal (R7, R87, R107, R117, R118, R146) -/

/-- The source that a reversal binds into S: in FORMED the best-ranked of the judgement with both slots empty. -/
def reversalBest (s : State) : Option Source :=
  if s.rcl.trainState = .formed then
    (judgeSources { s with src.slotP := none, src.slotS := none }).src.ranking.head?
  else none

/-- With both slots empty the full evaluation fills S with the best-ranked source (R81 to R85). -/
theorem fullEvaluation_of_empty {g : Grounds} {x : Slots} (formed : g.forming = false) (emptyP : x.p = none)
    (emptyS : x.s = none) :
    fullEvaluation g x = match g.ranking.head? with
      | some b => bindS b x
      | none => x := by
  have desired : raiseDesired g x = x := raiseDesired_of_nothing_to_raise (.inl emptyP)
  unfold fullEvaluation
  rw [losePrimary_of_p_none g emptyP, loseSecond_of_s_none g emptyS, desired,
    promoteSecond_of_p_bound_or_s_none (.inr emptyS)]
  unfold fillSecond
  simp only [formed, emptyS, emptyP, Option.isSome_none, Bool.or_self, Bool.false_eq_true, if_false, Option.any_none,
    Bool.not_false]
  cases g.ranking <;> rfl

/-- SRC's step at a reversal. -/
theorem sourceReversal_eq (s : State) :
    sourceReversal s = endStep .reversal (slotIdentity s.src.slotP)
      ⟨none, reversalBest s, [], [], s.src.slotP.isSome || s.src.slotS.isSome || (reversalBest s).isSome⟩
      (judgeSources { s with src.slotP := none, src.slotS := none, pvq.queueP := [], pvq.queueS := [] }) := by
  unfold sourceReversal reversalBest
  dsimp only
  by_cases formed : s.rcl.trainState = .formed
  · rw [if_pos formed, if_pos formed, fullEvaluation_of_empty (by simp [groundsOf, formed]) rfl rfl]
    have ranking : (groundsOf (judgeSources (putSlots (emptyS (emptyP (slotsOf s))) s))).ranking.head? =
      (judgeSources { s with src.slotP := none, src.slotS := none }).src.ranking.head? := rfl
    rw [ranking]
    cases (judgeSources { s with src.slotP := none, src.slotS := none }).src.ranking.head? with
    | none => rw [Option.isSome_none, Bool.or_false]; rfl
    | some b => rw [Option.isSome_some, Bool.or_true]; rfl
  · rw [if_neg formed, if_neg formed, Option.isSome_none, Bool.or_false]
    rfl

/-- The bindings change at a reversal: a source was bound, or the best is bound into S. -/
def reversalChanges (s : State) : Bool := s.src.slotP.isSome || s.src.slotS.isSome || (reversalBest s).isSome

/-- The state that SRC's step at a reversal leaves, field by field. -/
theorem sourceReversal_fields (s : State) :
    sourceReversal s = { s with
      src := { (judgeSources { s with src.slotP := none, src.slotS := none }).src with
        slotP := none, slotS := reversalBest s }
      pvq := { s.pvq with queueP := [], queueS := [] }
      xck := if reversalChanges s then { s.xck with splitCounter := 0, splitLatch := false } else s.xck
      svc.events := if reversalChanges s then
        changeEvents .reversal (slotIdentity s.src.slotP) none (reversalBest s) s else s.svc.events } := by
  rw [sourceReversal_eq]
  change endStep _ _ ⟨none, reversalBest s, [], [], reversalChanges s⟩ _ = _
  cases reversalChanges s with
  | false => rw [endStep_of_unchanged rfl]; rfl
  | true => rw [endStep_of_changed rfl]; rfl

theorem resetSplit_eq (cause : SplitCause) (s : State) :
    resetSplit cause s = { s with
      xck := { s.xck with splitCounter := 0, splitLatch := false }
      svc.events := if s.xck.splitLatch then
          raiseIn (.split .clear cause 0 (slotIdentity s.src.slotP) (slotIdentity s.src.slotS)) s.svc.events
        else s.svc.events } := by
  unfold resetSplit
  cases s.xck.splitLatch <;> rfl

theorem sampleReversal_eq (s : State) :
    sampleReversal s = { s with tsu := if s.tsu.sampling = .idle then s.tsu
      else { s.tsu with sampling := .idle, intervalSum := 0, intervalCount := 0 } } := by
  unfold sampleReversal
  cases s.tsu.sampling <;> rfl

/-- XCK and SRC at a reversal, in either order. -/
def endPreview (crossCheckFirst : Bool) (s : State) : State :=
  if crossCheckFirst then sourceReversal (resetSplit .reversal s) else resetSplit .reversal (sourceReversal s)

/-- The event set after a reversal: SPLIT of a set latch, raised once, and SOURCE-CHANGE of a change of binding. -/
def reversalEvents (crossCheckFirst : Bool) (s : State) : EventSet :=
  let told (cause : SplitCause) (p q : Option Source) : EventSet :=
    if s.xck.splitLatch then raiseIn (.split .clear cause 0 (slotIdentity p) (slotIdentity q)) s.svc.events
    else s.svc.events
  let before := if crossCheckFirst then told .reversal s.src.slotP s.src.slotS
    else if reversalChanges s then told .binding none (reversalBest s) else told .reversal none none
  if reversalChanges s then
    raiseIn (.sourceChange .reversal (slotIdentity s.src.slotP) 0 (slotIdentity (reversalBest s))) before
  else before

theorem reversalBest_of_no_change {s : State} (unchanged : reversalChanges s = false) : reversalBest s = none := by
  have parts : (s.src.slotP = none ∧ s.src.slotS = none) ∧ reversalBest s = none := by
    simpa [reversalChanges] using unchanged
  exact parts.2

/-- SRC's judgement at a reversal does not see the split. -/
theorem judged_resetSplit (cause : SplitCause) (s : State) :
    (judgeSources { resetSplit cause s with src.slotP := none, src.slotS := none }).src =
      (judgeSources { s with src.slotP := none, src.slotS := none }).src := by
  rw [resetSplit_eq]; rfl

theorem reversalBest_resetSplit (cause : SplitCause) (s : State) :
    reversalBest (resetSplit cause s) = reversalBest s := by
  rw [resetSplit_eq]; rfl

theorem reversalChanges_resetSplit (cause : SplitCause) (s : State) :
    reversalChanges (resetSplit cause s) = reversalChanges s := by
  simp [reversalChanges, reversalBest_resetSplit]

/-- In either order the preview is gone. -/
theorem endPreview_fields (crossCheckFirst : Bool) (s : State) :
    endPreview crossCheckFirst s = { s with
      src := { (judgeSources { s with src.slotP := none, src.slotS := none }).src with
        slotP := none, slotS := reversalBest s }
      pvq := { s.pvq with queueP := [], queueS := [] }
      xck := { s.xck with splitCounter := 0, splitLatch := false }
      svc.events := reversalEvents crossCheckFirst s } := by
  unfold endPreview reversalEvents
  cases crossCheckFirst
  · simp only [Bool.false_eq_true, if_false]
    rw [resetSplit_eq, sourceReversal_fields]
    cases changes : reversalChanges s with
    | true => rfl
    | false => rw [reversalBest_of_no_change changes]; rfl
  · simp only [if_true]
    rw [sourceReversal_fields, judged_resetSplit, reversalChanges_resetSplit, reversalBest_resetSplit, resetSplit_eq]
    cases reversalChanges s <;> rfl

theorem reversalEvents_sourceChange (crossCheckFirst : Bool) (s : State) :
    (reversalEvents crossCheckFirst s).sourceChange =
      (if reversalChanges s then
        s.raise (.sourceChange .reversal (slotIdentity s.src.slotP) 0 (slotIdentity (reversalBest s)))
      else s).svc.events.sourceChange := by
  unfold reversalEvents
  cases reversalChanges s <;> cases crossCheckFirst <;> cases s.xck.splitLatch <;> rfl

theorem reversalEvents_split (crossCheckFirst : Bool) (s : State) :
    (reversalEvents crossCheckFirst s).split =
      (if s.xck.splitLatch = false then s
      else if crossCheckFirst then
        s.raise (.split .clear .reversal 0 (slotIdentity s.src.slotP) (slotIdentity s.src.slotS))
      else if reversalChanges s then
        s.raise (.split .clear .binding 0 (slotIdentity none) (slotIdentity (reversalBest s)))
      else s.raise (.split .clear .reversal 0 (slotIdentity none) (slotIdentity none))).svc.events.split := by
  unfold reversalEvents
  cases reversalChanges s <;> cases crossCheckFirst <;> cases s.xck.splitLatch <;> rfl

theorem reversalEvents_other (crossCheckFirst : Bool) (s : State) {k : EventKind} (notSource : k ≠ .sourceChange)
    (notSplit : k ≠ .split) : (reversalEvents crossCheckFirst s).record k = s.svc.events.record k := by
  have told (cause : SplitCause) (p q : Identity) :
      (raiseIn (.split .clear cause 0 p q) s.svc.events).record k = s.svc.events.record k :=
    EventSet.record_setRecord_of_ne _ _ notSplit
  have source (p q r : Identity) (es : EventSet) :
      (raiseIn (.sourceChange .reversal p q r) es).record k = es.record k :=
    EventSet.record_setRecord_of_ne _ _ notSource
  unfold reversalEvents
  cases reversalChanges s <;> cases crossCheckFirst <;> cases s.xck.splitLatch <;> simp [source, told]

/-- ODO's changes, the end of a running interval and of the hold: the state in which a reversal ends the preview. -/
def reversedState (sense : Direction) (s : State) : State :=
  { s with
    odo := takePulse sense s.odo
    tsu := if s.tsu.sampling = .idle then s.tsu
      else { s.tsu with sampling := .idle, intervalSum := 0, intervalCount := 0 }
    dmd.holdRemainder := 0 }

theorem takePulse_speed_of_reversal {sense : Direction} {o : Odo} (known : o.direction ≠ .unknown)
    (differs : o.direction ≠ sense) : (takePulse sense o).speed = 0 := by
  have measured := takePulse_measurement sense o
  rw [if_pos (.inl ⟨known, differs⟩)] at measured
  exact measured.2

/-- A reversal leaves TSU nothing to do: the speed is 0, and no interval runs. -/
theorem tachometerPulse_of_reversal {sense : Direction} {s : State} (known : s.odo.direction ≠ .unknown)
    (differs : s.odo.direction ≠ sense) (crossCheckFirst : Bool) :
    tachometerPulse sense crossCheckFirst s = endPreview crossCheckFirst (reversedState sense s) := by
  have announces : tachometerPulse sense crossCheckFirst s =
      samplePulse (endPreview crossCheckFirst (demandReversal (sampleReversal { s with odo := takePulse sense s.odo }))) := by
    unfold tachometerPulse
    dsimp only
    rw [if_pos ((isReversal_eq_true_iff _ _).2 ⟨known, differs⟩)]
    rfl
  have reversed : demandReversal (sampleReversal { s with odo := takePulse sense s.odo }) = reversedState sense s := by
    rw [sampleReversal_eq]; rfl
  rw [announces, reversed, samplePulse_eq, endPreview_fields]
  have slow : samplingConditions { reversedState sense s with
      src := { (judgeSources { reversedState sense s with src.slotP := none, src.slotS := none }).src with
        slotP := none, slotS := reversalBest (reversedState sense s) }
      pvq := { (reversedState sense s).pvq with queueP := [], queueS := [] }
      xck := { (reversedState sense s).xck with splitCounter := 0, splitLatch := false }
      svc.events := reversalEvents crossCheckFirst (reversedState sense s) } = false := by
    rw [Bool.eq_false_iff, ne_eq, samplingConditions_iff]
    simp [reversedState, takePulse_speed_of_reversal known differs]
  rw [slow]
  simp only [Bool.false_eq_true, if_false]
  rw [if_pos]
  unfold reversedState
  dsimp only
  split
  · assumption
  · rfl

/-- Settles O18: the reversed state with its preview ended. -/
theorem reversalEndsPreview : Obligations.ReversalEndsPreview := by
  intro t t2Before t2Now crossCheckFirst s u sense known differs
  set w := reversedState sense u
  have reverses : tachometerPulse (pulseSense t2Before) crossCheckFirst u = endPreview crossCheckFirst w :=
    tachometerPulse_of_reversal known differs crossCheckFirst
  rw [exec_tachometerPulse, completes_next, reverses, endPreview_fields]
  have direction : (takePulse sense u.odo).direction = sense := (takePulse_path sense u.odo).2.2.1
  refine ⟨takePulse_speed_of_reversal known differs, direction, rfl, ?_, ?_, fun k notSource notSplit => ?_⟩
  · refine (reversalEvents_sourceChange crossCheckFirst w).trans ?_
    change _ = (if reversalChanges w then
      u.raise (.sourceChange .reversal (slotIdentity u.src.slotP) 0 (slotIdentity (reversalBest w)))
      else u).svc.events.sourceChange
    cases reversalChanges w <;> rfl
  · refine (reversalEvents_split crossCheckFirst w).trans ?_
    change _ = (if u.xck.splitLatch = false then u
      else if crossCheckFirst then
        u.raise (.split .clear .reversal 0 (slotIdentity u.src.slotP) (slotIdentity u.src.slotS))
      else if reversalChanges w then
        u.raise (.split .clear .binding 0 (slotIdentity none) (slotIdentity (reversalBest w)))
      else u.raise (.split .clear .reversal 0 (slotIdentity none) (slotIdentity none))).svc.events.split
    rw [show w.xck = u.xck from rfl]
    cases u.xck.splitLatch <;> cases crossCheckFirst <;> cases reversalChanges w <;> rfl
  · exact reversalEvents_other crossCheckFirst w notSource notSplit

end Sys2Proof.Machine
end

section
/-! SUPPORT. SNS: the judgement of a reply, its effect as one equation for each unit, and the fault states over runs of
frames. -/

namespace Sys2Proof.Machine

/-! ## The fault states (R20) -/

/-- The fault of a unit is set by a frame. -/
def sets (good : Bool) (h : SensorHealth) : Bool := !h.fault && (healthAfter good h).fault

/-- The fault of a unit is cleared by a frame. -/
def clears (good : Bool) (h : SensorHealth) : Bool := h.fault && !(healthAfter good h).fault

theorem faultChange_eq (good : Bool) (h : SensorHealth) :
    faultChange h (healthAfter good h) =
      if sets good h then some .set else if clears good h then some .clear else none := by
  unfold faultChange sets clears
  cases h.fault <;> cases (healthAfter good h).fault <;> rfl

/-- The fault of the bogie unit after a frame, with its report (R20, R22). -/
theorem countBogieFrame_eq (good : Bool) (s : State) :
    countBogieFrame good s =
      { s with
        sns := { s.sns with
          bogieHealth := healthAfter good s.sns.bogieHealth
          window := if sets good s.sns.bogieHealth then [] else s.sns.window }
        svc.events :=
          if sets good s.sns.bogieHealth then raiseIn (.sensorFault .bogie .set) s.svc.events
          else if clears good s.sns.bogieHealth then raiseIn (.sensorFault .bogie .clear) s.svc.events
          else s.svc.events } := by
  unfold countBogieFrame
  simp only [faultChange_eq]
  cases sets good s.sns.bogieHealth <;> cases clears good s.sns.bogieHealth <;> rfl

/-- The fault of the body-angle unit after a frame, with its reports and the failure of the car (R20, R21, R154). -/
theorem countBodyFrame_eq (good : Bool) (s : State) :
    countBodyFrame good s =
      { s with
        sns := { s.sns with bodyHealth := healthAfter good s.sns.bodyHealth }
        act := if sets good s.sns.bodyHealth then latchFailure .sensor s.act else s.act
        svc.events :=
          if sets good s.sns.bodyHealth then
            raiseIn (.actuatorFault .sensor s.act.failedLatch) (raiseIn (.sensorFault .body .set) s.svc.events)
          else if clears good s.sns.bodyHealth then raiseIn (.sensorFault .body .clear) s.svc.events
          else s.svc.events } := by
  unfold countBodyFrame
  simp only [faultChange_eq]
  cases sets good s.sns.bodyHealth
  · cases clears good s.sns.bodyHealth <;> rfl
  · simp only [if_true]
    rw [failActuator_eq]
    rfl

/-! ## The judgement of a reply (R17, R18) -/

/-- A reply's frame is in order: its check, its address and its status. -/
def inOrder (unit : SensorUnit) (r : SensorReply) : Bool :=
  decide (r.check = checkOf ([r.address, r.status] ++ bytes16 r.value) ∧ r.address = unitAddress unit ∧ r.status = 0)

theorem judgeReply_eq (unit : SensorUnit) (r : SensorReply) :
    judgeReply unit r =
      if r.check ≠ checkOf ([r.address, r.status] ++ bytes16 r.value) then .checkFailure
      else if r.address ≠ unitAddress unit then .wrongAddress
      else if r.status ≠ 0 then .faultStatus else .good r.value.toInt := rfl

theorem judgeReply_of_inOrder {unit : SensorUnit} {r : SensorReply} (good : inOrder unit r = true) :
    judgeReply unit r = .good r.value.toInt := by
  obtain ⟨check, address, status⟩ := of_decide_eq_true good
  rw [judgeReply_eq, if_neg (not_not.2 check), if_neg (not_not.2 address), if_neg (not_not.2 status)]

/-- A reply that is not in order is bad for the first cause that applies. -/
theorem judgeReply_of_not_inOrder {unit : SensorUnit} {r : SensorReply} (bad : inOrder unit r = false) :
    judgeReply unit r =
      if r.check ≠ checkOf ([r.address, r.status] ++ bytes16 r.value) then .checkFailure
      else if r.address ≠ unitAddress unit then .wrongAddress else .faultStatus := by
  rw [judgeReply_eq]
  split
  · rfl
  · next check =>
    split
    · rfl
    · next address =>
      have status : r.status ≠ 0 := fun zero => of_decide_eq_false bad ⟨not_not.1 check, not_not.1 address, zero⟩
      rw [if_pos status]

/-! ## The bogie unit (R17, R19, R22, R24, R27) -/

theorem joinWindow_eq (v : Int) (w : List Int) : joinWindow v w = (if 20 ≤ w.length then w.tail else w) ++ [v] := by
  unfold joinWindow; split <;> rfl

theorem joinInterval_eq (v : Int) (u : Tsu) :
    joinInterval v u =
      if u.sampling = .running ∧ u.intervalCount < 255 then
        { u with intervalSum := u.intervalSum + v, intervalCount := u.intervalCount + 1 }
      else u := by
  unfold joinInterval
  simp only [Bool.and_eq_true, decide_eq_true_eq]

/-- The events of a frame of the bogie unit. -/
def bogieEvents (good : Bool) (s : State) : EventSet :=
  if sets good s.sns.bogieHealth then raiseIn (.sensorFault .bogie .set) s.svc.events
  else if clears good s.sns.bogieHealth then raiseIn (.sensorFault .bogie .clear) s.svc.events
  else s.svc.events

/-- The bogie exchange ends with a good frame. -/
theorem endBogieExchange_good (raw : Int) (s : State) :
    endBogieExchange (.good raw) s = { s with
      sns := { s.sns with
        counters := if 6000 < raw.natAbs then
          { s.sns.counters with bogieClamped := min 65535 (s.sns.counters.bogieClamped + 1) } else s.sns.counters
        lastBogie := limit 6000 raw
        bogieHealth := healthAfter true s.sns.bogieHealth
        window := if sets true s.sns.bogieHealth then [] else joinWindow (limit 6000 raw) s.sns.window
        wait := .waiting .body 0
        request := 2 :: bytes16 (checkOf [2]) }
      tsu := joinInterval (limit 6000 raw) s.tsu
      svc.events := bogieEvents true s } := by
  unfold endBogieExchange takeBogieFrame
  dsimp only
  rw [countBogieFrame_eq]
  unfold useBogieValue
  split <;> rfl

/-- The bogie exchange ends with a bad frame, or with none. -/
theorem endBogieExchange_bad {v : Verdict} (bad : v.isGood = false) (s : State) :
    endBogieExchange v s = { s with
      sns := { s.sns with
        counters := { s.sns.counters with bogie := countBad v s.sns.counters.bogie }
        bogieHealth := healthAfter false s.sns.bogieHealth
        window := if sets false s.sns.bogieHealth then [] else s.sns.window
        wait := .waiting .body 0
        request := 2 :: bytes16 (checkOf [2]) }
      svc.events := bogieEvents false s } := by
  have taken : takeBogieFrame v s = countBogieFrame false { s with sns.counters.bogie := countBad v s.sns.counters.bogie } := by
    cases v <;> first | rfl | cases bad
  unfold endBogieExchange
  rw [taken, countBogieFrame_eq]
  rfl

theorem bogieEvents_eq (good : Bool) (s : State) :
    bogieEvents good s =
      (if sets good s.sns.bogieHealth then s.raise (.sensorFault .bogie .set)
      else if clears good s.sns.bogieHealth then s.raise (.sensorFault .bogie .clear) else s).svc.events := by
  unfold bogieEvents
  split
  · rfl
  · split <;> rfl

theorem receiveBogieReply_of_awaited {time : Nat} {s : State} (awaits : s.sns.wait = .waiting .bogie time) (r : SensorReply) :
    receiveBogieReply r s = endBogieExchange (judgeReply .bogie r) s := by
  rw [receiveBogieReply, awaits]; rfl

theorem isGood_of_not_inOrder {unit : SensorUnit} {r : SensorReply} (bad : inOrder unit r = false) :
    (judgeReply unit r).isGood = false := by
  rw [judgeReply_of_not_inOrder bad]
  split
  · rfl
  · split <;> rfl

/-- Settles O20: a reply in order is used, any other counted, and then the fault is judged. -/
theorem bogieReplyIsJudgedAndUsed : Obligations.BogieReplyIsJudgedAndUsed := by
  intro t r time s u good v health awaits
  have answered : exec (.bogieFrame t r) s = .next (receiveBogieReply r u) := rfl
  rw [answered, receiveBogieReply_of_awaited awaits, completes_next]
  have good_eq : good = inOrder .bogie r := rfl
  clear_value good
  cases inOrd : inOrder .bogie r with
  | true =>
    obtain rfl := good_eq.trans inOrd
    obtain ⟨check, address, status⟩ := of_decide_eq_true inOrd
    rw [judgeReply_of_inOrder inOrd, endBogieExchange_good]
    refine ⟨rfl, rfl, rfl, rfl, ?_, ?_, ?_, bogieEvents_eq true u, rfl⟩
    · change (if sets true u.sns.bogieHealth then [] else joinWindow v u.sns.window) = _
      rw [joinWindow_eq]
      rfl
    · change joinInterval v u.tsu = _
      simp only [joinInterval_eq, true_and]
    · dsimp only
      rw [if_neg (not_not.2 check), if_neg (show ¬r.address ≠ 1 from not_not.2 address),
        if_neg (not_not.2 status)]
  | false =>
    obtain rfl := good_eq.trans inOrd
    rw [endBogieExchange_bad (isGood_of_not_inOrder inOrd)]
    refine ⟨rfl, rfl, rfl, rfl, ?_, ?_, ?_, bogieEvents_eq false u, rfl⟩
    · rfl
    · simp
    · dsimp only
      rw [judgeReply_of_not_inOrder inOrd]
      split
      · rfl
      · next check =>
        by_cases address : r.address ≠ 1
        · rw [if_pos address, if_pos (show r.address ≠ unitAddress .bogie from address)]
          rfl
        · have status : r.status ≠ 0 := fun zero =>
            of_decide_eq_false inOrd ⟨not_not.1 check, not_not.1 address, zero⟩
          rw [if_neg address, if_neg (show ¬r.address ≠ unitAddress .bogie from address), if_pos status]
          rfl

/-! ## The body-angle unit (R18 to R21, R154) -/

/-- ACT after a frame of the body-angle unit. -/
def bodyAct (good : Bool) (s : State) : Act :=
  if sets good s.sns.bodyHealth then latchFailure .sensor s.act else s.act

/-- The events of a frame of the body-angle unit. -/
def bodyEvents (good : Bool) (s : State) : EventSet :=
  if sets good s.sns.bodyHealth then
    raiseIn (.actuatorFault .sensor s.act.failedLatch) (raiseIn (.sensorFault .body .set) s.svc.events)
  else if clears good s.sns.bodyHealth then raiseIn (.sensorFault .body .clear) s.svc.events
  else s.svc.events

theorem bodyEvents_eq (good : Bool) (s : State) :
    bodyEvents good s =
      (if sets good s.sns.bodyHealth then
        (s.raise (.sensorFault .body .set)).raise (.actuatorFault .sensor s.act.failedLatch)
      else if clears good s.sns.bodyHealth then s.raise (.sensorFault .body .clear) else s).svc.events := by
  unfold bodyEvents
  split
  · rfl
  · split <;> rfl

theorem bodyAct_eq (good : Bool) (s : State) :
    bodyAct good s =
      if sets good s.sns.bodyHealth && !s.act.failedLatch then
        { s.act with failedLatch := true, failureCause := some .sensor, enable := false, duty := 0
                     trackingCount := 0, blanking := 0 }
      else s.act := by
  unfold bodyAct latchFailure
  cases sets good s.sns.bodyHealth <;> cases s.act.failedLatch <;> rfl

/-- What a frame of the body-angle unit leaves of the counters. -/
def countBody (v : Verdict) (c : SensorCounters) : SensorCounters :=
  match v with
  | .good _ => c
  | .outOfRange => { c with bodyOutOfRange := min 65535 (c.bodyOutOfRange + 1) }
  | bad => { c with body := countBad bad c.body }

/-- The body-angle exchange ends, with a frame or with none. -/
theorem endBodyExchange_eq (v : Verdict) (s : State) :
    endBodyExchange v s = { s with
      sns := { s.sns with
        counters := countBody v s.sns.counters
        lastBody := match v with
          | .good theta => theta
          | _ => s.sns.lastBody
        bodyHealth := healthAfter v.isGood s.sns.bodyHealth
        wait := .idle }
      act := bodyAct v.isGood s
      svc.events := bodyEvents v.isGood s } := by
  unfold endBodyExchange takeBodyFrame
  cases v <;> dsimp only <;> rw [countBodyFrame_eq] <;> rfl

theorem judgeBodyReply_eq (r : SensorReply) :
    judgeBodyReply r =
      if inOrder .body r then
        (if -15000 ≤ r.value.toInt ∧ r.value.toInt ≤ 15000 then .good r.value.toInt else .outOfRange)
      else judgeReply .body r := by
  unfold judgeBodyReply
  cases inOrd : inOrder .body r with
  | true =>
    rw [judgeReply_of_inOrder inOrd]
    simp only [Bool.or_eq_true, decide_eq_true_eq, if_true]
    by_cases inside : -15000 ≤ r.value.toInt ∧ r.value.toInt ≤ 15000
    · rw [if_pos inside, if_neg (by omega)]
    · rw [if_neg inside, if_pos (by omega)]
  | false =>
    have bad := isGood_of_not_inOrder inOrd
    cases judged : judgeReply .body r <;> first | rfl | simp [judged, Verdict.isGood] at bad

/-- A reply's verdict: its value, out of range, or the first cause of a reply not in order. -/
theorem judgeBodyReply_cases (r : SensorReply) :
    (inOrder .body r = true ∧ (-15000 ≤ r.value.toInt ∧ r.value.toInt ≤ 15000) ∧
      judgeBodyReply r = .good r.value.toInt) ∨
    (inOrder .body r = true ∧ ¬(-15000 ≤ r.value.toInt ∧ r.value.toInt ≤ 15000) ∧ judgeBodyReply r = .outOfRange) ∨
    (inOrder .body r = false ∧ judgeBodyReply r =
      if r.check ≠ checkOf ([r.address, r.status] ++ bytes16 r.value) then .checkFailure
      else if r.address ≠ 2 then .wrongAddress else .faultStatus) := by
  rw [judgeBodyReply_eq]
  cases inOrd : inOrder .body r with
  | true =>
    by_cases inside : -15000 ≤ r.value.toInt ∧ r.value.toInt ≤ 15000
    · exact .inl ⟨rfl, inside, by rw [if_pos rfl, if_pos inside]⟩
    · exact .inr (.inl ⟨rfl, inside, by rw [if_pos rfl, if_neg inside]⟩)
  | false => exact .inr (.inr ⟨rfl, judgeReply_of_not_inOrder inOrd⟩)

/-- Settles O21: the exchange ends with the verdict, which is taken case by case. -/
theorem bodyReplyIsJudgedAndFailsTheCar : Obligations.BodyReplyIsJudgedAndFailsTheCar := by
  intro t r time s u checked good health faultSet awaits
  have answered : exec (.bodyAngleFrame t r) s = .next (endBodyExchange (judgeBodyReply r) u) := by
    rw [show exec (.bodyAngleFrame t r) s = .next (receiveBodyReply r u) from rfl, receiveBodyReply, awaits]; rfl
  have good_eq : good = (checked && decide (-15000 ≤ r.value.toInt ∧ r.value.toInt ≤ 15000)) := rfl
  have checked_eq : checked = inOrder .body r := rfl
  rw [answered, endBodyExchange_eq, completes_next]
  clear_value good checked
  obtain ⟨inOrd, inside, verdict⟩ | ⟨inOrd, outside, verdict⟩ | ⟨inOrd, verdict⟩ := judgeBodyReply_cases r
  · obtain rfl : good = true := by rw [good_eq, checked_eq, inOrd, decide_eq_true inside]; rfl
    rw [verdict]
    exact ⟨rfl, rfl, rfl, rfl, bodyAct_eq true u, bodyEvents_eq true u, rfl⟩
  · obtain rfl : good = false := by rw [good_eq, decide_eq_false outside, Bool.and_false]
    obtain rfl : checked = true := checked_eq.trans inOrd
    rw [verdict]
    exact ⟨rfl, rfl, rfl, rfl, bodyAct_eq false u, bodyEvents_eq false u, rfl⟩
  · obtain rfl : good = false := by rw [good_eq, checked_eq, inOrd]; rfl
    obtain rfl : checked = false := checked_eq.trans inOrd
    rw [verdict]
    have bad : (if r.check ≠ checkOf ([r.address, r.status] ++ bytes16 r.value) then Verdict.checkFailure
        else if r.address ≠ 2 then .wrongAddress else .faultStatus).isGood = false := by
      split
      · rfl
      · split <;> rfl
    rw [bad]
    refine ⟨rfl, rfl, ?_, ?_, bodyAct_eq false u, bodyEvents_eq false u, rfl⟩
    · split
      · next good => rw [good] at bad; cases bad
      · rfl
    · dsimp only
      split
      · rfl
      · split <;> rfl

/-! ## Runs of frames, and silence (R16, R19, R20) -/

theorem foldl_bad_of_set (n : Nat) :
    (List.replicate n false).foldl (fun h g => healthAfter g h) ⟨true, 0, 0⟩ = ⟨true, 0, 0⟩ := by
  induction n with
  | zero => rfl
  | succ n ih => exact ih

theorem foldl_good_of_clear (n : Nat) :
    (List.replicate n true).foldl (fun h g => healthAfter g h) ⟨false, 0, 0⟩ = ⟨false, 0, 0⟩ := by
  induction n with
  | zero => rfl
  | succ n ih => exact ih

theorem foldl_bad_fault (n : Nat) :
    ((List.replicate n false).foldl (fun h g => healthAfter g h) ⟨false, 0, 0⟩).fault = decide (3 ≤ n) := by
  match n with
  | 0 => rfl
  | 1 => rfl
  | 2 => rfl
  | n + 3 =>
    change ((List.replicate n false).foldl (fun h g => healthAfter g h) ⟨true, 0, 0⟩).fault = _
    rw [foldl_bad_of_set]
    simp

/-- Good frames up to the nineteenth only count. -/
theorem foldl_good_counts {n : Nat} (few : n < 20) :
    (List.replicate n true).foldl (fun h g => healthAfter g h) ⟨true, 0, 0⟩ = ⟨true, 0, n⟩ := by
  induction n with
  | zero => rfl
  | succ n ih =>
    rw [List.replicate_succ', List.foldl_append, ih (by omega)]
    exact if_neg (by simp; omega)

theorem foldl_good_fault (n : Nat) :
    ((List.replicate n true).foldl (fun h g => healthAfter g h) ⟨true, 0, 0⟩).fault = decide (n < 20) := by
  by_cases few : n < 20
  · rw [foldl_good_counts few, decide_eq_true few]
  · obtain ⟨k, rfl⟩ := Nat.exists_eq_add_of_le (Nat.le_of_not_lt few)
    rw [List.replicate_add, List.foldl_append]
    change ((List.replicate k true).foldl (fun h g => healthAfter g h) ⟨false, 0, 0⟩).fault = _
    rw [foldl_good_of_clear, decide_eq_false few]

/-- A bad frame clears no fault. -/
theorem not_clears_bad (h : SensorHealth) : clears false h = false := by
  unfold clears healthAfter
  cases h.fault <;> rfl

/-- Settles O22: runs of frames by their length, and silence as the end of the exchange in progress. -/
theorem silenceCountsTowardTheFault : Obligations.SilenceCountsTowardTheFault := by
  refine ⟨foldl_bad_fault, foldl_good_fault, fun h => ?_, fun t time r s => ?_⟩
  · unfold healthAfter
    cases h.fault <;> rfl
  · intro u bogie body bogieSet bodySet
    have bogieFrame : exec (.bogieFrame t r) s = .next (receiveBogieReply r u) := rfl
    have bodyFrame : exec (.bodyAngleFrame t r) s = .next (receiveBodyReply r u) := rfl
    have timeout : exec (.sensorReplyTimeout t) s = .next (endWait u) := rfl
    refine ⟨fun awaits => ⟨?_, ?_⟩, fun awaits => ⟨?_, ?_⟩, fun idle => ⟨?_, ?_, ?_⟩⟩
    · rw [bodyFrame, receiveBodyReply, awaits]; rfl
    · have ends : endWait u = endBogieExchange .noReply u := by rw [endWait, awaits]; rfl
      rw [timeout, ends, endBogieExchange_bad rfl, bogieEvents_eq, not_clears_bad]
      rfl
    · rw [bogieFrame, receiveBogieReply, awaits]; rfl
    · have ends : endWait u = endBodyExchange .noReply u := by rw [endWait, awaits]; rfl
      rw [timeout, ends, endBodyExchange_eq, bodyAct_eq, bodyEvents_eq,
        show Verdict.isGood .noReply = false from rfl, not_clears_bad]
      rfl
    · rw [timeout, endWait, idle]; rfl
    · rw [bogieFrame, receiveBogieReply, idle]; rfl
    · rw [bodyFrame, receiveBodyReply, idle]; rfl

end Sys2Proof.Machine
end

section
/-! SUPPORT. LNK: the line states of a port as equations, the receiver, the acceptance of a frame, and what joins a
queue or leaves it for the line (R33 to R46). -/

namespace Sys2Proof.Machine

/-! ## Ports and their line states (R33 to R37) -/

@[simp] theorem State.setPort_setPort (s : State) (e : End) (p q : Port) : (s.setPort e p).setPort e q = s.setPort e q := by
  cases e <;> rfl

@[simp] theorem State.setPort_port (s : State) (e : End) : s.setPort e (s.port e) = s := by cases e <;> rfl

/-- A port goes UP from the port it has become. -/
theorem goUp_setPort (e : End) (cause : PortCause) (s : State) (p : Port) :
    goUp e cause (s.setPort e p) = takeTrigger ((s.setPort e (upPort p)).raise (.portChange e true cause)) := by
  unfold goUp reportChange
  rw [State.port_setPort, State.setPort_setPort]

/-- Settles O24: one case per line state of the port. -/
theorem signalMovesThePort : Obligations.SignalMovesThePort := by
  intro t e s u lost
  refine ⟨rfl, ?_, rfl⟩
  have answered : exec (.signalLoss t e) s = .next (loseSignal e u) := rfl
  rw [answered]
  unfold loseSignal
  cases (u.port e).line <;> rfl

/-- Settles O25: in SETTLING each command gives the port that goes UP; elsewhere none does anything. -/
theorem settledPortGoesUp : Obligations.SettledPortGoesUp := by
  intro t e s u up
  refine ⟨?_, ?_, ?_⟩
  · have answered : exec (.settleTimeExpiry t e) s = .next (settleExpires e u) := rfl
    rw [answered]
    unfold settleExpires
    simp only [goUp_setPort]
    rfl
  · have answered : exec (.farEndUp t e) s = .next (farEndUp e u) := rfl
    rw [answered]
    unfold farEndUp
    rw [goUp_setPort]
    rfl
  · have answered : exec (.flagTimeExpiry t e) s = .next (flagExpires e u) := rfl
    rw [answered]
    unfold flagExpires
    simp only [goUp_setPort, Bool.and_eq_true, decide_eq_true_eq]
    rfl

/-! ## The receiver (R38, R39) -/

theorem heardByte_eq (p : Port) :
    heardByte p = { p with markerTime := if p.line = .up then 0 else p.markerTime } := by
  unfold heardByte; split <;> rfl

theorem heardFill_eq (fill : Fill) (p : Port) : heardFill fill p = { p with
    markerTime    := if p.line = .up ∧ fill = .plain then 0 else p.markerTime
    clearFillTime := if p.line = .settling ∧ fill = .marked then 0 else p.clearFillTime } := by
  unfold heardFill
  cases p with
  | mk line => cases line <;> cases fill <;> rfl

theorem findPattern_eq (e : End) (s : State) : findPattern e s = s.setPort e { s.port e with
    markerTime := if (s.port e).receiver = .hunting ∧ (s.port e).line = .up then 0 else (s.port e).markerTime
    receiver   := if (s.port e).receiver = .hunting then .inFrame (s.port e).line else (s.port e).receiver } := by
  unfold findPattern
  rw [heardByte_eq]
  split
  · next hunting => simp only [hunting, true_and, if_true]
  · next line inFrame =>
    have kept : (s.port e).receiver ≠ .hunting := by simp [inFrame]
    simp only [kept, false_and, if_false]
    exact (State.setPort_port s e).symm

theorem truncateFrame_eq (e : End) (fill : Fill) (s : State) :
    truncateFrame e fill s = s.setPort e { heardFill fill (s.port e) with
      receiver           := .hunting
      counters.truncated :=
        if (heardFill fill (s.port e)).receiver = .hunting then (heardFill fill (s.port e)).counters.truncated
        else addSat16 (heardFill fill (s.port e)).counters.truncated 1 } := by
  unfold truncateFrame
  generalize heardFill fill (s.port e) = p
  cases p with
  | mk _ _ _ _ _ _ receiver => cases receiver <;> rfl

theorem formatError_eq (e : End) (s : State) :
    formatError e s = s.setPort e { heardByte (s.port e) with
      receiver              := .hunting
      counters.formatErrors :=
        if (heardByte (s.port e)).receiver = .hunting then (heardByte (s.port e)).counters.formatErrors
        else addSat16 (heardByte (s.port e)).counters.formatErrors 1 } := by
  unfold formatError
  generalize heardByte (s.port e) = p
  cases p with
  | mk _ _ _ _ _ _ receiver => cases receiver <;> rfl

/-- Settles O26: the receiver is HUNTING, and takes or counts nothing but a pattern, or it is IN-FRAME, and the frame is
counted and dropped. -/
theorem spoiledFramesAreCountedAndDropped : Obligations.SpoiledFramesAreCountedAndDropped := by
  intro t e fill error s u
  refine ⟨?_, ?_, fun wf => ?_⟩
  · have answered : exec (.startPatternFound t e) s = .next (findPattern e u) := rfl
    rw [answered, completes_next, findPattern_eq]
  · have answered : exec (.frameTruncated t e fill) s = .next (truncateFrame e fill u) := rfl
    rw [answered, completes_next, truncateFrame_eq, heardFill_eq]
    rfl
  · have wellFormed : error.wf = true := by
      cases error <;> simpa [FormatError.wf] using wf
    have answered : exec (.frameFormatError t e error) s = .next (formatError e u) := if_pos wellFormed
    rw [answered, completes_next, formatError_eq, heardByte_eq]
    rfl

/-! ## Acceptance (R40, R41) -/

/-- An accepted frame, the port counted: handed on and offered onward in the given order. -/
theorem acceptFrame_setPort (e : End) (f : LinkFrame) (offerFirst queueFirst : Bool) (s : State) (p : Port) :
    acceptFrame e f offerFirst queueFirst (s.setPort e p) =
      if offerFirst then
        handFrame e (acceptedFrame f) queueFirst (forward e (acceptedFrame f)
          (s.setPort e { p with counters.accepted := addSat16 p.counters.accepted 1 }))
      else
        forward e (acceptedFrame f) (handFrame e (acceptedFrame f) queueFirst
          (s.setPort e { p with counters.accepted := addSat16 p.counters.accepted 1 })) := by
  unfold acceptFrame
  simp only [State.port_setPort, State.setPort_setPort]

/-- The check fails, or a line state was not UP, or the frame is accepted. -/
theorem receiveFrame_inFrame {e : End} {line : LineState} {s : State} (f : LinkFrame) (check : Check)
    (offerFirst queueFirst : Bool) (receiver : (s.port e).receiver = .inFrame line) :
    receiveFrame e f check offerFirst queueFirst s =
      if check ≠ checkOf (frameCovered f) then
        s.setPort e { hunt (heardByte (s.port e)) with
          counters.checkFailures := addSat16 (s.port e).counters.checkFailures 1 }
      else if line ≠ .up ∨ (s.port e).line ≠ .up then s.setPort e (hunt (heardByte (s.port e)))
      else acceptFrame e f offerFirst queueFirst (s.setPort e (hunt (heardByte (s.port e)))) := by
  unfold receiveFrame
  rw [receiver]
  have sameLine : (hunt (heardByte (s.port e))).line = (s.port e).line := (heardByte_frame _).1
  have sameCount : (hunt (heardByte (s.port e))).counters = (s.port e).counters := by rw [heardByte_eq]; rfl
  dsimp only
  rw [sameLine, sameCount]
  by_cases good : check ≠ checkOf (frameCovered f)
  · rw [if_pos good, if_pos good]
  · rw [if_neg good, if_neg good]
    by_cases up : line = .up <;> by_cases stillUp : (s.port e).line = .up <;> simp [up, stillUp]

/-- Settles O27: the judgement of a frame by its cases, and the units by its kind. -/
theorem receivedFrameIsJudged : Obligations.ReceivedFrameIsJudged := by
  constructor
  · intro t e f check offerFirst queueFirst s u base aged onward counted hop
    have wellFormed : f.wf = true := decide_eq_true hop
    have answered : exec (.linkFrameReceived t e f check offerFirst queueFirst) s =
        .next (receiveFrame e f check offerFirst queueFirst u) := if_pos wellFormed
    rw [answered]
    refine ⟨fun hunting => ?_, fun line inFrame => ?_⟩
    · rw [receiveFrame, hunting]
    · rw [receiveFrame_inFrame f check offerFirst queueFirst inFrame, acceptFrame_setPort, heardByte_eq]
      rfl
  · intro e hop age epoch origin r k c o s heard
    exact ⟨fun _ => rfl, fun _ => rfl, rfl, rfl, fun _ => rfl, fun _ => rfl⟩

/-! ## Joining a queue (R42, R43) -/

theorem queueFull_iff (body : FrameBody) (p : Port) :
    queueFull body p = true ↔ if isNotice body then 8 ≤ p.notices.length else 8 ≤ p.streams.length := by
  unfold queueFull
  split <;> exact decide_eq_true_iff

theorem offerTo_of_not_up {e : End} {s : State} (f : LinkFrame) (notUp : (s.port e).line ≠ .up) : offerTo e f s = s :=
  if_pos notUp

theorem offerTo_of_full {e : End} {f : LinkFrame} {s : State} (up : (s.port e).line = .up)
    (full : queueFull f.body (s.port e) = true) :
    offerTo e f s = (s.setPort e (countDrop f.body (s.port e))).raise (.queueLoss (lossPlace f.body e)) := by
  unfold offerTo
  rw [if_neg (not_not_intro up), if_pos full]

theorem offerTo_of_room {e : End} {f : LinkFrame} {s : State} (up : (s.port e).line = .up)
    (room : queueFull f.body (s.port e) = false) :
    offerTo e f s = s.setPort e (chooseIfIdle s.now (joinTail s.now f (s.port e))) := by
  unfold offerTo
  rw [if_neg (not_not_intro up), if_neg (by simp [room])]

/-- A state with other ports and another event set: all that LNK's transmit side changes. -/
def relinked (a b : Port) (es : EventSet) (s : State) : State := { s with portA := a, portB := b, svc.events := es }

theorem offerTo_relinked (e : End) (f : LinkFrame) (s : State) : ∃ a b es, offerTo e f s = relinked a b es s := by
  unfold offerTo
  split
  · exact ⟨s.portA, s.portB, s.svc.events, rfl⟩
  · split
    all_goals cases e with
      | a => exact ⟨_, s.portB, _, rfl⟩
      | b => exact ⟨s.portA, _, _, rfl⟩

theorem originate_relinked (body : FrameBody) (s : State) : ∃ a b es, originate body s = relinked a b es s := by
  obtain ⟨a, b, es, first⟩ := offerTo_relinked .a (ownFrame body) s
  obtain ⟨a', b', es', second⟩ := offerTo_relinked .b (ownFrame body) (offerTo .a (ownFrame body) s)
  exact ⟨a', b', es', second.trans (by rw [first]; rfl)⟩

/-- Each port takes its copy of an own frame as though it were offered there alone. -/
theorem originate_port (body : FrameBody) (e : End) (s : State) :
    (originate body s).port e = (offerTo e (ownFrame body) s).port e := by
  unfold originate
  cases e with
  | a => exact offerTo_port_other .b (ownFrame body) _
  | b => exact offerTo_port_congr .b _ (offerTo_port_other .a (ownFrame body) s) (offerTo_frame ..).1

/-- An empty port has room. -/
theorem queueFull_of_empty {p : Port} (body : FrameBody) (notices : p.notices = []) (streams : p.streams = []) :
    queueFull body p = false := by
  unfold queueFull
  rw [notices, streams]
  split <;> rfl

/-- The age at the moment of joining is the frame's own. -/
theorem ageAtStart_now (now : Nat) (f : LinkFrame) : ageAtStart now ⟨f, now⟩ = f.age := by
  unfold ageAtStart ageSat
  apply BitVec.eq_of_toNat_eq
  have bound := f.age.isLt
  simp only [BitVec.toNat_ofNat, Nat.sub_self, Nat.zero_div]
  omega

theorem startedFrame_now (now : Nat) (f : LinkFrame) : startedFrame now ⟨f, now⟩ = f := by
  unfold startedFrame
  rw [ageAtStart_now]

/-- The transmitter, IDLE with both queues empty, takes what joins unless it is a stale stream frame. -/
theorem choose_joined {p : Port} (now : Nat) (f : LinkFrame) (idle : p.sending = none) (notices : p.notices = [])
    (streams : p.streams = []) :
    chooseIfIdle now (joinTail now f p) =
      if isNotice f.body then { p with sending := some f }
      else if 500 < f.age.toNat then { p with counters.staleDrops := addSat16 p.counters.staleDrops 1 }
      else { p with sending := some f, counters.staleDrops := addSat16 p.counters.staleDrops 0 } := by
  have idleAfter : (joinTail now f p).sending.isNone = true := by rw [(joinTail_frame now f p).2.2, idle]; rfl
  rw [chooseIfIdle, if_pos idleAfter, joinTail]
  split
  · next notice => rw [chooseNext_of_notice now (q := ⟨f, now⟩) (rest := []) (by simp [notices]), startedFrame_now, ← notices]
  · next stream =>
    rw [chooseNext_of_no_notice now (p := { p with streams := p.streams ++ [⟨f, now⟩] }) notices]
    have alone : p.streams ++ [⟨f, now⟩] = [⟨f, now⟩] := by rw [streams]; rfl
    simp only [alone, dropStale, isStale, ageAtStart_now, decide_eq_true_eq]
    split
    · simp [streams, idle]
    · simp [streams, startedFrame_now]

/-- Settles O28: an offered frame meets a port that is not UP, a full queue, a transmitter that is sending, or one that is
IDLE. -/
theorem offeredFrameJoinsOrDrops : Obligations.OfferedFrameJoinsOrDrops := by
  refine ⟨fun body => by cases body <;> rfl, fun s p => ⟨rfl, rfl, rfl, rfl, rfl, rfl⟩, fun body s => ?_, fun e f s => ?_⟩
  · intro own v
    refine ⟨rfl, fun e => originate_port body e s, ?_⟩
    obtain ⟨a, b, es, relinks⟩ := originate_relinked body s
    have value : v = relinked a b es s := relinks
    rw [value]
    rfl
  · intro p full
    have fullIff : queueFull f.body p = true ↔ full := queueFull_iff f.body p
    refine ⟨offerTo_of_not_up f, fun up isFull => ?_, fun up notFull busy => ?_, fun up idle notices streams counts young => ?_,
      fun up idle notices streams stream old => ?_⟩
    · exact offerTo_of_full up (fullIff.2 isFull)
    · have busyAfter : (joinTail s.now f p).sending.isNone = false := by
        rw [(joinTail_frame s.now f p).2.2, Option.isNone_eq_false_iff, busy]
      rw [offerTo_of_room up (Bool.eq_false_iff.2 fun isFull => notFull (fullIff.1 isFull)), chooseIfIdle, if_neg (by simp [p, busyAfter])]
      rfl
    · rw [offerTo_of_room up (queueFull_of_empty f.body notices streams), choose_joined s.now f idle notices streams]
      have kept : addSat16 p.counters.staleDrops 0 = p.counters.staleDrops := Nat.min_eq_right counts
      by_cases notice : isNotice f.body = true
      · rw [if_pos notice]
      · rw [if_neg notice, if_neg (Nat.not_lt.2 (young.resolve_left notice)), kept]
    · rw [offerTo_of_room up (queueFull_of_empty f.body notices streams), choose_joined s.now f idle notices streams,
        if_neg (by simp [stream]), if_pos old]
      rfl

/-! ## The transmitter (R44 to R46) -/

theorem dropStale_eq (now : Nat) (q : List Queued) :
    dropStale now q = ((q.takeWhile (isStale now)).length, q.dropWhile (isStale now)) := by
  induction q with
  | nil => rfl
  | cons x rest ih =>
    unfold dropStale
    cases stale : isStale now x <;> simp [stale, ih]

theorem isStale_eq (now : Nat) : isStale now = fun q =>
    decide (500 < min 65535 (q.frame.age.toNat + (now - q.since) / 10)) := by
  funext q
  unfold isStale ageAtStart ageSat
  congr 2
  rw [BitVec.toNat_ofNat]
  omega

/-- Settles O29: the transmitter's choice with a notice and without one. -/
theorem transmitterPrefersNoticesAndDropsStale : Obligations.TransmitterPrefersNoticesAndDropsStale := by
  intro t e s u p age start stale
  have answered : exec (.transmitComplete t e) s = .next (endFrame e u) := rfl
  rw [answered]
  refine ⟨fun idle => ?_, fun f q rest sends waits => ?_, fun f sends none => ?_⟩
  · rw [endFrame, if_neg (by simp [p, idle] at *)]
  · rw [endFrame, if_pos (by simp [p, sends] at *), chooseNext_of_notice u.now waits]
    rfl
  · rw [endFrame, if_pos (by simp [p, sends] at *), chooseNext_of_no_notice u.now none, dropStale_eq, isStale_eq]
    rfl

end Sys2Proof.Machine
end

section
/-! SUPPORT. RCL's roll call: epochs, the entry into an epoch with the frames it sends, triggers, the frames of a roll call,
and liveness (R51 to R58, R67 to R70). -/

namespace Sys2Proof.Machine

/-! ## Epochs (R51, R54) -/

/-- What lies between two distances modulo 256 is one distance. -/
theorem sub_toNat_add_sub_toNat (e f : Epoch) : (e - f).toNat = 0 ∧ (f - e).toNat = 0 ∨ (e - f).toNat + (f - e).toNat = 256 := by
  have first := e.isLt
  have second := f.isLt
  simp only [BitVec.toNat_sub]
  omega

theorem isNewer_iff (e f : Epoch) : isNewer e f = true ↔ ∃ k : Nat, 1 ≤ k ∧ k ≤ 127 ∧ e = f + BitVec.ofNat 8 k := by
  unfold isNewer
  rw [Bool.and_eq_true, decide_eq_true_eq, decide_eq_true_eq]
  constructor
  · intro ⟨low, high⟩
    refine ⟨(e - f).toNat, low, high, ?_⟩
    rw [BitVec.ofNat_toNat, BitVec.setWidth_eq, BitVec.add_comm, BitVec.sub_add_cancel]
  · rintro ⟨k, low, high, rfl⟩
    have ahead : (f + BitVec.ofNat 8 k - f).toNat = k := by
      rw [BitVec.add_comm, BitVec.add_sub_cancel, BitVec.toNat_ofNat]
      omega
    omega

theorem isNewer_asymm {e f : Epoch} (newer : isNewer e f = true) : isNewer f e = false := by
  unfold isNewer at *
  rw [Bool.and_eq_true, decide_eq_true_eq, decide_eq_true_eq] at newer
  rw [Bool.and_eq_false_iff, decide_eq_false_iff_not, decide_eq_false_iff_not]
  have around := sub_toNat_add_sub_toNat e f
  omega

@[simp] theorem isNewer_self (e : Epoch) : isNewer e e = false := by
  unfold isNewer
  rw [BitVec.sub_self]
  rfl

theorem isNewer_of_opposite {e f : Epoch} (opposite : e = f + 128) : isNewer e f = false ∧ isNewer f e = false := by
  have ahead : (e - f).toNat = 128 := by
    rw [opposite, BitVec.add_comm, BitVec.add_sub_cancel]
    rfl
  have around := sub_toNat_add_sub_toNat e f
  have behind : (f - e).toNat = 128 := by omega
  unfold isNewer
  rw [ahead, behind]
  exact ⟨rfl, rfl⟩

theorem ownEpoch_newer (r : Rcl) : isNewer (ownEpoch r) r.currentEpoch = true := by
  unfold ownEpoch
  split
  · assumption
  · exact (isNewer_iff _ _).2 ⟨1, le_rfl, by decide, rfl⟩

/-! ## Entering an epoch (R54, R55) -/

/-- The higher of the highest epoch seen and one that is noted. -/
def notedEpoch (epoch highest : Epoch) : Epoch := if isNewer epoch highest then epoch else highest

@[simp] theorem isNewer_notedEpoch (epoch highest : Epoch) : isNewer epoch (notedEpoch epoch highest) = false := by
  unfold notedEpoch
  split
  · exact isNewer_self epoch
  · next old => exact Bool.eq_false_iff.2 old

theorem notedEpoch_notedEpoch (epoch highest : Epoch) :
    notedEpoch epoch (notedEpoch epoch highest) = notedEpoch epoch highest := by
  conv_lhs => unfold notedEpoch
  rw [show (if isNewer epoch highest = true then epoch else highest) = notedEpoch epoch highest from rfl,
    isNewer_notedEpoch]
  rfl

theorem noteEpoch_eq (epoch : Epoch) (s : State) :
    noteEpoch epoch s = { s with rcl.highestEpoch := notedEpoch epoch s.rcl.highestEpoch } := by
  unfold noteEpoch notedEpoch
  split <;> rfl

/-- RCL on its entry into an epoch. -/
def begunRcl (epoch : Epoch) (s : State) : Rcl :=
  { s.rcl with
    currentEpoch   := epoch
    highestEpoch   := notedEpoch epoch s.rcl.highestEpoch
    trainState     := .forming
    roster         := [selfEntry s]
    previousRoster := setAside s.rcl
    duplicateFlag  := false
    overflowFlag   := false
    refusedCount   := 0
    quietTimer     := some 0 }

theorem beginEpoch_eq (epoch : Epoch) (s : State) : beginEpoch epoch s = { s with rcl := begunRcl epoch s } :=
  noteEpoch_eq epoch _

theorem ownEntryFlags_eq (s : State) (e : End) :
    ownEntryFlags s e = (if s.svc.unconfigured then 1 else 0) ||| (if e = .b then 2 else 0) := by
  unfold ownEntryFlags
  cases s.svc.unconfigured <;> cases e <;> rfl

/-- The entry into an epoch changes RCL, and what LNK changes by the frames it is handed. -/
theorem enterEpoch_relinked (epoch : Epoch) (s : State) :
    ∃ a b es, enterEpoch epoch s = relinked a b es { s with rcl := begunRcl epoch s } := by
  unfold enterEpoch sendRollEntry
  rw [beginEpoch_eq]
  generalize { s with rcl := begunRcl epoch s } = w
  obtain ⟨a, b, es, first⟩ := offerTo_relinked .a (ownFrame (.rollEntry (ownRollEntry epoch .a w))) w
  rw [first]
  obtain ⟨a', b', es', second⟩ := offerTo_relinked .b
    (ownFrame (.rollEntry (ownRollEntry epoch .b (relinked a b es w)))) (relinked a b es w)
  exact ⟨a', b', es', second⟩

/-- Each port takes its ROLL-ENTRY as though it were offered there alone. -/
theorem enterEpoch_port (epoch : Epoch) (e : End) (s : State) :
    (enterEpoch epoch s).port e = (offerTo e (ownFrame (.rollEntry (ownRollEntry epoch e s))) s).port e := by
  unfold enterEpoch sendRollEntry
  rw [beginEpoch_eq]
  have entry : ownRollEntry epoch e { s with rcl := begunRcl epoch s } = ownRollEntry epoch e s := rfl
  have now : ({ s with rcl := begunRcl epoch s } : State).now = s.now := rfl
  have ports : ∀ e, ({ s with rcl := begunRcl epoch s } : State).port e = s.port e := fun e => by cases e <;> rfl
  generalize { s with rcl := begunRcl epoch s } = w at *
  cases e with
  | a =>
    rw [show End.a = otherEnd .b from rfl, offerTo_port_other, show otherEnd .b = .a from rfl, entry]
    exact offerTo_port_congr .a _ (ports .a) now
  | b =>
    obtain ⟨a, b, es, first⟩ := offerTo_relinked .a (ownFrame (.rollEntry (ownRollEntry epoch .a w))) w
    have sameEntry : ownRollEntry epoch .b (offerTo .a (ownFrame (.rollEntry (ownRollEntry epoch .a w))) w) =
        ownRollEntry epoch .b s := by
      rw [← entry, first]
      rfl
    rw [sameEntry]
    exact offerTo_port_congr .b _ ((offerTo_port_other .a _ w).trans (ports .b)) ((offerTo_frame ..).1.trans now)

/-- The entry into an epoch raises QUEUE-LOSS alone. -/
theorem enterEpoch_raises (epoch : Epoch) (s : State) :
    RaisesOnly (· = .queueLoss) s.svc.events (enterEpoch epoch s).svc.events := by
  unfold enterEpoch sendRollEntry
  rw [beginEpoch_eq]
  exact (offerTo_raises .a _ { s with rcl := begunRcl epoch s }).trans (offerTo_raises .b _ _)

theorem enterEpoch_rcl (epoch : Epoch) (s : State) : (enterEpoch epoch s).rcl = begunRcl epoch s := by
  obtain ⟨a, b, es, enters⟩ := enterEpoch_relinked epoch s
  rw [enters]
  rfl

/-! ## A roll call of the station's own (R54) -/

/-- A roll call of the station's own changes RCL and what LNK changes. -/
theorem startRollCall_relinked (s : State) :
    ∃ a b es, startRollCall s = relinked a b es { s with rcl := begunRcl (ownEpoch s.rcl) s } := by
  unfold startRollCall
  obtain ⟨a, b, es, starts⟩ := originate_relinked (.rollStart (ownEpoch s.rcl) s.svc.config.identity) s
  rw [starts]
  exact enterEpoch_relinked (ownEpoch s.rcl) (relinked a b es s)

theorem startRollCall_raises (s : State) :
    RaisesOnly (· = .queueLoss) s.svc.events (startRollCall s).svc.events :=
  ((offerTo_raises .a _ s).trans (offerTo_raises .b _ _)).trans (enterEpoch_raises _ _)

/-- Each port takes ROLL-START and then its ROLL-ENTRY as though they were offered there alone. -/
theorem startRollCall_port (e : End) (s : State) :
    (startRollCall s).port e = (offerTo e (ownFrame (.rollEntry (ownRollEntry (ownEpoch s.rcl) e s)))
      (offerTo e (ownFrame (.rollStart (ownEpoch s.rcl) s.svc.config.identity)) s)).port e := by
  unfold startRollCall
  obtain ⟨a, b, es, starts⟩ := originate_relinked (.rollStart (ownEpoch s.rcl) s.svc.config.identity) s
  have entry : ownRollEntry (ownEpoch s.rcl) e (originate (.rollStart (ownEpoch s.rcl) s.svc.config.identity) s) =
      ownRollEntry (ownEpoch s.rcl) e s := by
    rw [starts]
    rfl
  rw [enterEpoch_port, entry]
  refine offerTo_port_congr e _ (originate_port _ e s) ?_
  rw [starts, (offerTo_frame ..).1]
  rfl

/-- A notice joins the tail of a queue that has room while the transmitter is sending. -/
theorem offerTo_notice_of_busy {e : End} {f : LinkFrame} {s : State} (notice : isNotice f.body = true)
    (up : (s.port e).line = .up) (busy : (s.port e).sending.isSome = true) (room : (s.port e).notices.length < 8) :
    offerTo e f s = s.setPort e { s.port e with notices := (s.port e).notices ++ [⟨f, s.now⟩] } := by
  have hasRoom : queueFull f.body (s.port e) = false := by
    rw [queueFull, if_pos notice, decide_eq_false (by omega)]
  have joined : joinTail s.now f (s.port e) =
      { s.port e with notices := (s.port e).notices ++ [⟨f, s.now⟩] } := if_pos notice
  rw [offerTo_of_room up hasRoom, joined, chooseIfIdle, if_neg (by simp [Option.ne_none_iff_isSome, busy])]

/-- Settles O30: epochs by their distance, and the roll call as one entry into the own epoch behind ROLL-START. -/
theorem ownRollCallEntersTheEpoch : Obligations.OwnRollCallEntersTheEpoch := by
  refine ⟨fun e f => ⟨isNewer_iff e f, isNewer_asymm, isNewer_of_opposite⟩,
    fun r => ⟨ownEpoch_newer r, fun newer => if_pos newer, fun old => if_neg (Bool.eq_false_iff.1 old)⟩, fun s => ?_⟩
  intro epoch v unit self entry
  have ownEntry : ∀ k e, ownRollEntry k e s = entry k e := fun k e => by
    rw [ownRollEntry, ownEntryFlags_eq]
    rfl
  obtain ⟨a, b, es, starts⟩ := startRollCall_relinked s
  have value : v = relinked a b es { s with rcl := begunRcl (ownEpoch s.rcl) s } := starts
  have onPort : ∀ e, v.port e = (offerTo e ⟨0, 0, .rollEntry (entry epoch e)⟩
      (offerTo e ⟨0, 0, .rollStart epoch s.svc.config.identity⟩ s)).port e := fun e => by
    rw [← ownEntry]
    exact startRollCall_port e s
  refine ⟨rfl, ownEntry, ?_, ?_, fun k other => (startRollCall_raises s).record_eq other,
    fun e => ⟨onPort e, fun notUp => ?_, fun up busy room => ?_⟩⟩
  · rw [value]
    unfold relinked begunRcl setAside
    cases s.rcl.trainState <;> rfl
  · rw [value]
    rfl
  · rw [onPort, offerTo_of_not_up _ notUp, offerTo_of_not_up _ notUp]
  · rw [onPort, offerTo_notice_of_busy (f := ⟨0, 0, .rollStart epoch s.svc.config.identity⟩) rfl up busy (by omega),
      offerTo_notice_of_busy rfl (by simpa using up) (by simpa using busy) (by simp; omega)]
    simp

/-- Settles O31: a trigger is the model's own equation, and the expiry is one case of the kept trigger. -/
theorem triggerHoldKeepsOneTrigger : Obligations.TriggerHoldKeepsOneTrigger := by
  intro t s u
  refine ⟨rfl, ?_⟩
  have answered : exec (.triggerHoldExpiry t) s = .next (expireTriggerHold u) := rfl
  rw [answered, expireTriggerHold]
  cases u.rcl.triggerHold <;> rfl

/-! ## ROLL-START and ROLL-ENTRY received (R56 to R58) -/

section Entry

variable (e : End) (hop : Byte) {r : RollEntry} {s : State}

theorem takeRollEntry_of_loading (loading : s.svc.startState = .loading) :
    takeRollEntry e hop r s = noteEpoch r.epoch s := if_pos loading

theorem takeRollEntry_of_newer (started : s.svc.startState = .done) (newer : isNewer r.epoch s.rcl.currentEpoch = true) :
    takeRollEntry e hop r s = storeRollEntry e hop r (enterOnReceipt r.epoch (noteEpoch r.epoch s)) := by
  unfold takeRollEntry
  rw [if_neg (by simp [started]), if_pos newer]

theorem takeRollEntry_of_other (old : isNewer r.epoch s.rcl.currentEpoch = false)
    (different : r.epoch ≠ s.rcl.currentEpoch) : takeRollEntry e hop r s = noteEpoch r.epoch s := by
  unfold takeRollEntry
  dsimp only
  rw [if_neg (Bool.eq_false_iff.1 old), if_neg different]
  exact ite_self _

theorem takeRollEntry_of_forming (started : s.svc.startState = .done) (current : r.epoch = s.rcl.currentEpoch)
    (forming : s.rcl.trainState = .forming) :
    takeRollEntry e hop r s = storeRollEntry e hop r (noteEpoch r.epoch s) := by
  unfold takeRollEntry
  rw [if_neg (by simp [started]), if_neg (by simp [current]), if_pos current, forming]

theorem takeRollEntry_of_formed (started : s.svc.startState = .done) (current : r.epoch = s.rcl.currentEpoch)
    (formed : s.rcl.trainState = .formed) : takeRollEntry e hop r s = takeTrigger (noteEpoch r.epoch s) := by
  unfold takeRollEntry
  rw [if_neg (by simp [started]), if_neg (by simp [current]), if_pos current, formed]

theorem takeRollEntry_of_ignored (started : s.svc.startState = .done) (current : r.epoch = s.rcl.currentEpoch)
    (ignores : s.rcl.trainState = .oversize ∨ s.rcl.trainState = .conflict) :
    takeRollEntry e hop r s = noteEpoch r.epoch s := by
  unfold takeRollEntry
  rw [if_neg (by simp [started]), if_neg (by simp [current]), if_pos current]
  obtain oversize | conflict := ignores
  · rw [oversize]
  · rw [conflict]

end Entry

/-- On the entry into its epoch a ROLL-ENTRY is one of the current epoch in FORMING. -/
theorem takeRollEntry_enterEpoch (e : End) (hop : Byte) (r : RollEntry) {s : State} (started : s.svc.startState = .done) :
    takeRollEntry e hop r (enterEpoch r.epoch s) = storeRollEntry e hop r (enterEpoch r.epoch s) := by
  obtain ⟨a, b, es, enters⟩ := enterEpoch_relinked r.epoch s
  have startedAfter : (enterEpoch r.epoch s).svc.startState = .done := by rw [enters]; exact started
  have nothingNew : noteEpoch r.epoch (enterEpoch r.epoch s) = enterEpoch r.epoch s := by
    unfold noteEpoch
    rw [enterEpoch_rcl]
    exact if_neg (by simp [begunRcl])
  rw [takeRollEntry_of_forming e hop startedAfter (by rw [enterEpoch_rcl]; rfl) (by rw [enterEpoch_rcl]; rfl), nothingNew]

/-- Settles O32: the frame's epoch against the current one, and then the train state. -/
theorem rollCallFramesAreTakenByEpoch : Obligations.RollCallFramesAreTakenByEpoch := by
  constructor
  · intro epoch s v highest
    refine ⟨fun started newer => ?_, fun refused => ?_⟩
    · have value : v = enterEpoch epoch { s with rcl.highestEpoch := highest, rcl.pendingTrigger := false } := by
        change takeRollStart epoch s = _
        unfold takeRollStart enterOnReceipt
        rw [noteEpoch_eq, if_pos (by simp [started, newer])]
        rfl
      obtain ⟨a, b, es, enters⟩ :=
        enterEpoch_relinked epoch { s with rcl.highestEpoch := highest, rcl.pendingTrigger := false }
      refine ⟨value, ?_, ?_, fun k other => ?_, fun e => ?_⟩
      · rw [value, enterEpoch_rcl]
        have same : notedEpoch epoch highest = highest := notedEpoch_notedEpoch epoch s.rcl.highestEpoch
        unfold begunRcl setAside
        rw [same]
        cases s.rcl.trainState <;> rfl
      · rw [value, enters]
        rfl
      · rw [value]
        exact (enterEpoch_raises epoch _).record_eq other
      · rw [value, enterEpoch_port]
        exact offerTo_port_congr e _ (by cases e <;> rfl) rfl
    · change takeRollStart epoch s = _
      unfold takeRollStart
      rw [noteEpoch_eq]
      refine if_neg ?_
      obtain loading | old := refused
      · simp [loading]
      · simp [old]
  · intro e hop r s v noted old
    have notes : noteEpoch r.epoch s = noted := noteEpoch_eq r.epoch s
    refine ⟨fun loading => ?_, fun started newer => ?_, fun older different => ?_, fun started current =>
      ⟨fun formed => ?_, fun full => ?_, fun forming => ?_⟩⟩
    · exact (takeRollEntry_of_loading e hop loading).trans notes
    · have value : v = storeRollEntry e hop r (enterOnReceipt r.epoch noted) := by
        rw [← notes]
        exact takeRollEntry_of_newer e hop started newer
      rw [takeRollEntry_enterEpoch e hop r (s := { noted with rcl.pendingTrigger := false }) started]
      exact value
    · exact (takeRollEntry_of_other e hop older different).trans notes
    · rw [← notes]
      exact takeRollEntry_of_formed e hop started current formed
    · exact (takeRollEntry_of_ignored e hop started current full).trans notes
    · have value : v = storeRollEntry e hop r noted := by
        rw [← notes]
        exact takeRollEntry_of_forming e hop started current forming
      split
      · next known => exact value.trans (if_pos known)
      · next unknown =>
        split
        · next full => exact value.trans ((if_neg unknown).trans (if_pos full))
        · next room => exact value.trans ((if_neg unknown).trans (if_neg room))

/-! ## Liveness (R67, R68, R70) -/

/-- RCL once a frame has been applied to the entries it matches. -/
def appliedRcl (id : Identity) (e : End) (hop : Byte) (f : RosterEntry → RosterEntry) (r : Rcl) : Rcl :=
  { r with
    roster         := updateMatching id e hop f r.roster
    previousRoster :=
      if r.trainState = .forming then updateMatching id e hop f r.previousRoster else r.previousRoster }

theorem applyToRosters_eq (id : Identity) (e : End) (hop : Byte) (f : RosterEntry → RosterEntry) (s : State) :
    applyToRosters id e hop f s = { s with rcl := appliedRcl id e hop f s.rcl } := by
  unfold applyToRosters appliedRcl
  dsimp only
  split <;> rfl

/-- Settles O35: a frame matches an entry, or none. -/
theorem onlyMatchingFramesUpdateLiveness : Obligations.OnlyMatchingFramesUpdateLiveness := by
  constructor
  · intro id e hop f s v isMatch known applied
    refine ⟨fun unknown => ?_, fun isKnown => ?_⟩
    · change takeLiveness id e hop f s = _
      have notApplied : isApplied id e hop s.rcl = false := unknown
      exact if_neg (Bool.eq_false_iff.1 notApplied)
    · have value : v = judgeAtFrame { s with rcl := applied } := by
        rw [← show applyToRosters id e hop f s = { s with rcl := applied } from applyToRosters_eq id e hop f s]
        exact if_pos isKnown
      rw [value]
      refine ⟨rfl, ?_, ?_, ?_⟩ <;> simp
  · intro now c k x counts
    refine ⟨rfl, ?_⟩
    unfold applySample
    have count : min 3 (x.invalidCount + 1) = if x.invalidCount = 3 then 3 else x.invalidCount + 1 := by
      split <;> omega
    rw [count]

end Sys2Proof.Machine
end

section
/-! SUPPORT. The geometry of a formation: in a complete roster that holds self once, the ordinals are the places in the
formed roster, and the positions follow from them (R61 to R65). -/

namespace Sys2Proof.Machine

/-! ## Lists -/

/-- Distinct members of a list as long as they are many are all of it. -/
theorem perm_of_nodup_of_subset {α : Type} {l l' : List α} (distinct : l.Nodup) (subset : l ⊆ l')
    (short : l'.length ≤ l.length) : l.Perm l' :=
  (List.subperm_of_subset distinct subset).perm_of_length_le short

/-- In a list with one member of a property, two members of it are one. -/
theorem eq_of_filter_length_one {α : Type} {p : α → Bool} {l : List α} (one : (l.filter p).length = 1) {x y : α}
    (memX : x ∈ l) (memY : y ∈ l) (isX : p x = true) (isY : p y = true) : x = y := by
  obtain ⟨w, only⟩ := List.length_eq_one_iff.1 one
  have inFilter : ∀ z ∈ l, p z = true → z = w := fun z mem is =>
    List.mem_singleton.1 (only ▸ List.mem_filter.2 ⟨mem, is⟩)
  rw [inFilter x memX isX, inFilter y memY isY]

/-! ## A complete roster (R59, R60) -/

/-- A roster that holds self once, and on each side the hops from 0 without a gap. -/
structure Complete (roster : List RosterEntry) : Prop where
  self : (roster.filter fun x => x.side = .self).length = 1
  hops : ∀ e k, k < (sideEntries roster e).length → ∃ x ∈ roster, x.side = .port e ∧ x.hop = some k

theorem mem_sideEntries {roster : List RosterEntry} {e : End} {x : RosterEntry} :
    x ∈ sideEntries roster e ↔ x ∈ roster ∧ x.side = .port e := by
  simp [sideEntries]

theorem length_of_sides (roster : List RosterEntry) (e : End) :
    (sideEntries roster e).length + (roster.filter fun x => x.side = .self).length +
      (sideEntries roster (otherEnd e)).length = roster.length := by
  unfold sideEntries
  induction roster with
  | nil => rfl
  | cons x r ih =>
    cases side : x.side with
    | self => simp [side]; omega
    | port e' => cases e <;> cases e' <;> simp [side, otherEnd] at ih ⊢ <;> omega

theorem complete_of_sides {roster : List RosterEntry} (self : (roster.filter fun x => x.side = .self).length = 1)
    (complete : ∀ e, sideComplete roster e = true) : Complete roster where
  self := self
  hops e k low := by
    have side := complete e
    rw [sideComplete, List.all_eq_true] at side
    obtain ⟨x, mem, hop⟩ := List.any_eq_true.1 (side k (List.mem_range.2 low))
    exact ⟨x, (mem_sideEntries.1 mem).1, (mem_sideEntries.1 mem).2, by simpa using hop⟩

section Roster

variable {roster : List RosterEntry}

/-- The hops of a side are those from 0, each once. -/
theorem Complete.hops_perm (complete : Complete roster) (e : End) :
    ((List.range (sideEntries roster e).length).map some).Perm ((sideEntries roster e).map RosterEntry.hop) := by
  refine perm_of_nodup_of_subset (List.nodup_range.map (Option.some_injective _)) ?_ (by simp)
  intro hop mem
  obtain ⟨k, low, rfl⟩ := List.mem_map.1 mem
  obtain ⟨x, inRoster, side, isHop⟩ := complete.hops e k (List.mem_range.1 low)
  exact List.mem_map.2 ⟨x, mem_sideEntries.2 ⟨inRoster, side⟩, isHop⟩

/-- An entry of a side has a hop below the side's count. -/
theorem Complete.hop_lt (complete : Complete roster) {e : End} {x : RosterEntry} (mem : x ∈ sideEntries roster e) :
    ∃ k < (sideEntries roster e).length, x.hop = some k := by
  obtain ⟨k, low, same⟩ := List.mem_map.1 ((complete.hops_perm e).mem_iff.2 (List.mem_map.2 ⟨x, mem, rfl⟩))
  exact ⟨k, List.mem_range.1 low, same.symm⟩

/-- Two entries of a side with one hop are one. -/
theorem Complete.eq_of_hop (complete : Complete roster) {e : End} {x y : RosterEntry} (memX : x ∈ sideEntries roster e)
    (memY : y ∈ sideEntries roster e) (same : x.hop = y.hop) : x = y :=
  List.inj_on_of_nodup_map ((complete.hops_perm e).nodup_iff.1 (List.nodup_range.map (Option.some_injective _)))
    memX memY same

/-! ## End 0 (R61) -/

theorem foldl_outer (x : RosterEntry) (r : List RosterEntry) :
    r.foldl outer x ∈ x :: r ∧ ∀ y ∈ x :: r, y.hop.getD 0 ≤ (r.foldl outer x).hop.getD 0 := by
  induction r generalizing x with
  | nil => simp
  | cons y r ih =>
    obtain ⟨mem, bound⟩ := ih (outer x y)
    have first : outer x y ∈ x :: y :: r := by unfold outer; split <;> simp
    have atLeast : x.hop.getD 0 ≤ (outer x y).hop.getD 0 ∧ y.hop.getD 0 ≤ (outer x y).hop.getD 0 := by
      unfold outer; split <;> omega
    have top := bound (outer x y) List.mem_cons_self
    refine ⟨?_, fun z memZ => ?_⟩
    · obtain isOuter | inRest := List.mem_cons.1 mem
      · exact isOuter ▸ first
      · exact List.mem_cons_of_mem _ (List.mem_cons_of_mem _ inRest)
    · obtain rfl | rfl | inRest := by simpa using memZ
      · exact atLeast.1.trans top
      · exact atLeast.2.trans top
      · exact bound z (List.mem_cons_of_mem _ inRest)

/-- The outermost station of a side is the one with the last hop. -/
theorem Complete.outermost_eq (complete : Complete roster) (own : Identity) (e : End) :
    outermost own roster e = (((sideEntries roster e).find? fun x =>
      x.hop == some ((sideEntries roster e).length - 1)).map RosterEntry.identity).getD own := by
  unfold outermost
  cases side : sideEntries roster e with
  | nil => rfl
  | cons x r =>
    obtain ⟨mem, bound⟩ := foldl_outer x r
    rw [← side] at mem bound
    have count : (sideEntries roster e).length = r.length + 1 := by rw [side]; rfl
    obtain ⟨k, low, hop⟩ := complete.hop_lt mem
    obtain ⟨y, inRoster, isSide, last⟩ := complete.hops e r.length (by omega)
    have memY := mem_sideEntries.2 ⟨inRoster, isSide⟩
    have isLast : k = r.length := by
      have reaches := bound y memY
      rw [hop, last] at reaches
      simp only [Option.getD_some] at reaches
      omega
    have found : (sideEntries roster e).find? (fun x => x.hop == some ((sideEntries roster e).length - 1)) =
        some (r.foldl outer x) := by
      rw [count, Nat.add_sub_cancel]
      cases search : (sideEntries roster e).find? fun x => x.hop == some r.length with
      | none => exact absurd last (by simpa using List.find?_eq_none.1 search y memY)
      | some z =>
        have isHop : z.hop = some r.length := by simpa using List.find?_some search
        rw [complete.eq_of_hop (List.mem_of_find?_eq_some search) mem (by rw [isHop, hop, isLast])]
    rw [side] at found
    rw [found]
    rfl

/-! ## Ordinals (R62) -/

/-- The ordinal of an entry, as sorting reads it. -/
def placeOf (x : RosterEntry) : Nat := x.ordinal.getD 0

theorem insertByOrdinal_pairwise {x : RosterEntry} {l : List RosterEntry}
    (sorted : l.Pairwise fun x y => placeOf x ≤ placeOf y) :
    (insertByOrdinal x l).Pairwise fun x y => placeOf x ≤ placeOf y := by
  induction l with
  | nil => exact List.pairwise_singleton _ _
  | cons y r ih =>
    obtain ⟨least, rest⟩ := List.pairwise_cons.1 sorted
    unfold insertByOrdinal
    split
    · next before =>
      refine List.pairwise_cons.2 ⟨fun z mem => ?_, sorted⟩
      obtain rfl | inRest := List.mem_cons.1 mem
      · exact before
      · exact le_trans before (least z inRest)
    · next after =>
      refine List.pairwise_cons.2 ⟨fun z mem => ?_, ih rest⟩
      obtain rfl | inRest := List.mem_cons.1 ((insertByOrdinal_perm x r).subset mem)
      · exact le_of_lt (Nat.lt_of_not_le after)
      · exact least z inRest

theorem sortByOrdinal_pairwise (l : List RosterEntry) :
    (sortByOrdinal l).Pairwise fun x y => placeOf x ≤ placeOf y := by
  induction l with
  | nil => exact List.Pairwise.nil
  | cons x r ih => exact insertByOrdinal_pairwise ih

/-- Wherever end 0 lies, the ordinals of a complete roster are those from 0, each once. -/
theorem Complete.ordinals_perm (complete : Complete roster) (end0 : End) :
    (List.range roster.length).Perm (roster.map (ordinalOf end0 (sideEntries roster end0).length)) := by
  refine perm_of_nodup_of_subset List.nodup_range (fun k mem => ?_) (by simp)
  have low := List.mem_range.1 mem
  have sides := length_of_sides roster end0
  rw [complete.self] at sides
  refine List.mem_map.2 ?_
  obtain before | isSelf | after := Nat.lt_trichotomy k (sideEntries roster end0).length
  · obtain ⟨x, inRoster, side, hop⟩ := complete.hops end0 ((sideEntries roster end0).length - 1 - k) (by omega)
    refine ⟨x, inRoster, ?_⟩
    simp only [ordinalOf, side, hop, if_true, Option.getD_some]
    omega
  · obtain ⟨w, only⟩ := List.length_eq_one_iff.1 complete.self
    have isMem := List.mem_filter.1 (only ▸ List.mem_singleton_self w)
    refine ⟨w, isMem.1, ?_⟩
    simp only [ordinalOf, of_decide_eq_true isMem.2, isSelf]
  · obtain ⟨x, inRoster, side, hop⟩ :=
      complete.hops (otherEnd end0) (k - (sideEntries roster end0).length - 1) (by omega)
    refine ⟨x, inRoster, ?_⟩
    have other : otherEnd end0 ≠ end0 := by cases end0 <;> decide
    simp only [ordinalOf, side, hop, if_neg other, Option.getD_some]
    omega

/-- The roster placed and sorted, before it is measured. -/
def placedRoster (own : Identity) (roster : List RosterEntry) : List RosterEntry :=
  sortByOrdinal (roster.map (withPlace (end0Side own roster) (sideEntries roster (end0Side own roster)).length))

theorem formedRoster_eq (own : Identity) (roster : List RosterEntry) : formedRoster own roster =
    (placedRoster own roster).map (withPosition (placedRoster own roster) (ownPosition (placedRoster own roster))) := rfl

/-- The entries of the placed roster are those of the roster, each with its place. -/
theorem mem_placedRoster {own : Identity} {x : RosterEntry} : x ∈ placedRoster own roster ↔
    ∃ y ∈ roster, withPlace (end0Side own roster) (sideEntries roster (end0Side own roster)).length y = x := by
  rw [placedRoster, (sortByOrdinal_perm _).mem_iff, List.mem_map]

/-- The placed roster stands in the order of its ordinals. -/
theorem Complete.places (complete : Complete roster) (own : Identity) :
    (placedRoster own roster).map placeOf = List.range roster.length := by
  refine List.Perm.eq_of_pairwise' (r := (· ≤ ·)) ?_ ?_ ?_
  · exact List.pairwise_map.2 (sortByOrdinal_pairwise _)
  · exact List.pairwise_le_range
  · have perm := (sortByOrdinal_perm (roster.map (withPlace (end0Side own roster)
      (sideEntries roster (end0Side own roster)).length))).map placeOf
    rw [List.map_map] at perm
    exact perm.trans (complete.ordinals_perm (end0Side own roster)).symm

/-- Every ordinal is smaller than those behind it. -/
theorem Complete.places_pairwise (complete : Complete roster) (own : Identity) :
    (placedRoster own roster).Pairwise fun x y => placeOf x < placeOf y := by
  rw [← List.pairwise_map, complete.places own]
  exact List.pairwise_lt_range

theorem Complete.ordinals (complete : Complete roster) (own : Identity) :
    (formedRoster own roster).map RosterEntry.ordinal = (List.range roster.length).map some := by
  rw [← complete.places own, formedRoster_eq, List.map_map, List.map_map]
  refine List.map_congr_left fun x mem => ?_
  obtain ⟨y, -, rfl⟩ := mem_placedRoster.1 mem
  rfl

/-- An entry's A end faces end 0 where the end that sent its ROLL-ENTRY says so. -/
theorem facesEnd0_port (end0 : End) {x : RosterEntry} (e : End) (side : x.side = .port e) :
    facesEnd0 end0 x = decide (x.sentFrom = some (if e = end0 then .b else .a)) := by
  simp only [facesEnd0, side]
  split <;> rfl

/-! ## Positions (R64, R65) -/

/-- A car starts where the cars before it end. -/
theorem Complete.carStart_eq (complete : Complete roster) (own : Identity) {before after : List RosterEntry}
    {x : RosterEntry} (split : placedRoster own roster = before ++ x :: after) :
    carStart (placedRoster own roster) x = (before.map RosterEntry.carLength).sum := by
  have increasing := complete.places_pairwise own
  rw [split] at increasing ⊢
  obtain ⟨-, behind, less⟩ := List.pairwise_append.1 increasing
  obtain ⟨later, -⟩ := List.pairwise_cons.1 behind
  have kept : before.filter (fun y => decide (placeOf y < placeOf x)) = before :=
    List.filter_eq_self.2 fun y mem => decide_eq_true (less y mem x List.mem_cons_self)
  have gone : (x :: after).filter (fun y => decide (placeOf y < placeOf x)) = [] := by
    refine List.filter_eq_nil_iff.2 fun y mem => ?_
    rw [decide_eq_true_eq, Nat.not_lt]
    obtain rfl | inAfter := List.mem_cons.1 mem
    · exact le_rfl
    · exact le_of_lt (later y inAfter)
  have taken : (before ++ x :: after).filter (fun y => decide (placeOf y < placeOf x)) = before := by
    rw [List.filter_append, kept, gone, List.append_nil]
  exact congrArg (fun l => (l.map RosterEntry.carLength).sum) taken

/-- A position is the car's start with the point counted from the end that faces end 0. -/
theorem positionOf_eq (l : List RosterEntry) (x : RosterEntry) : positionOf l x = carStart l x +
    (if x.aFacesEnd0 = some true then (keptPoint x : Int) else (x.carLength : Int) - keptPoint x) := by
  unfold positionOf
  split <;> omega

theorem map_carLength_withPosition (l : List RosterEntry) (own : Int) (b : List RosterEntry) :
    (b.map (withPosition l own)).map RosterEntry.carLength = b.map RosterEntry.carLength := List.map_map

/-- A point within its car lies within the train. -/
theorem Complete.position_bounds (complete : Complete roster) (own : Identity) {before after : List RosterEntry}
    {x : RosterEntry} (split : placedRoster own roster = before ++ x :: after) (ref : x.refPos ≤ x.carLength)
    (sensor : x.sensorPos ≤ x.carLength) :
    0 ≤ positionOf (placedRoster own roster) x ∧
      positionOf (placedRoster own roster) x ≤ (roster.map RosterEntry.carLength).sum := by
  have total : ((placedRoster own roster).map RosterEntry.carLength).sum = (roster.map RosterEntry.carLength).sum := by
    rw [placedRoster, ((sortByOrdinal_perm _).map _).sum_eq, List.map_map]
    rfl
  have point : keptPoint x ≤ x.carLength := by unfold keptPoint; split <;> assumption
  rw [split, List.map_append, List.sum_append, List.map_cons, List.sum_cons] at total
  rw [positionOf_eq, complete.carStart_eq own split]
  split <;> omega

/-- Self's position is that of the one entry with self's side. -/
theorem Complete.ownPosition_eq (complete : Complete roster) {own : Identity} {y : RosterEntry}
    (mem : y ∈ placedRoster own roster) (self : y.side = .self) :
    ownPosition (placedRoster own roster) = positionOf (placedRoster own roster) y := by
  have one : ((placedRoster own roster).filter fun x => x.side = .self).length = 1 := by
    rw [placedRoster, ((sortByOrdinal_perm _).filter _).length_eq, List.filter_map, List.length_map]
    exact complete.self
  unfold ownPosition
  cases search : (placedRoster own roster).find? fun x => x.side = .self with
  | none => exact absurd self (by simpa using List.find?_eq_none.1 search y mem)
  | some z =>
    have isSelf : decide (z.side = .self) = true := (List.find?_eq_some_iff_append.1 search).1
    rw [eq_of_filter_length_one one (List.mem_of_find?_eq_some search) mem isSelf (decide_eq_true self)]
    rfl

end Roster

/-! ## Offsets (R65) -/

/-- An offset is the train distance with the sign of the direction. -/
theorem rosterOffset_directions (x : RosterEntry) (s : State) :
    rosterOffset { s with odo.direction := .towardB } x =
      (rosterOffset { s with odo.direction := .towardA } x).map (fun d => -d) ∧
    rosterOffset { s with odo.direction := .unknown } x = none ∧
    ∀ f d, selfFacesEnd0 s.rcl = some f → x.trainDistance = some d →
      rosterOffset { s with odo.direction := .towardA } x = some (if f then -d else d) := by
  unfold rosterOffset travelsTowardEnd0
  dsimp only
  refine ⟨?_, rfl, fun f d faces distance => ?_⟩
  · cases selfFacesEnd0 s.rcl with
    | none => rfl
    | some f => cases x.trainDistance <;> cases f <;> simp
  · rw [faces, distance]
    cases f <;> rfl

/-- Settles O34: a complete roster is placed, sorted by ordinals that are its places, and measured from end 0. -/
theorem formationOrdersTheTrain : Obligations.FormationOrdersTheTrain := by
  refine ⟨fun own roster => ?_, rosterOffset_directions⟩
  intro formed side count complete outer end0 self completeA completeB
  have isComplete : Complete roster := complete_of_sides self fun e => by
    rw [sideComplete_eq]
    cases e
    · exact completeA
    · exact completeB
  have isEnd0 : end0Side own roster = end0 := by
    unfold end0Side
    rw [isComplete.outermost_eq, isComplete.outermost_eq]
    rfl
  refine ⟨formedRoster_map_perm (fun _ _ _ => rfl) (fun _ _ _ => rfl) own roster, isComplete.ordinals own,
    fun x mem => ?_, fun before x after split => ?_, fun x memX y memY selfY otherX => ?_⟩
  · obtain ⟨z, memZ, rfl⟩ := List.mem_map.1 mem
    obtain ⟨w, -, rfl⟩ := mem_placedRoster.1 memZ
    rw [← isEnd0]
    cases w with
    | mk identity side => cases side with
      | self => exact ⟨rfl, rfl⟩
      | port e => exact ⟨rfl, congrArg some (facesEnd0_port _ e rfl)⟩
  · have measured : (placedRoster own roster).map (withPosition (placedRoster own roster)
        (ownPosition (placedRoster own roster))) = before ++ x :: after := split
    obtain ⟨b, rest, placed, rfl, restEq⟩ := List.map_eq_append_iff.1 measured
    obtain ⟨z, a, rfl, rfl, rfl⟩ := List.map_eq_cons_iff.1 restEq
    refine ⟨_, rfl, ?_, fun ref sensor => isComplete.position_bounds own placed ref sensor⟩
    rw [positionOf_eq, isComplete.carStart_eq own placed, map_carLength_withPosition]
    unfold keptPoint
    rw [apply_ite (Nat.cast (R := Int))]
    rfl
  · obtain ⟨z, memZ, rfl⟩ := List.mem_map.1 memX
    obtain ⟨w, memW, rfl⟩ := List.mem_map.1 memY
    refine ⟨_, _, rfl, rfl, ?_⟩
    have otherZ : z.side ≠ .self := otherX
    have ownIs := isComplete.ownPosition_eq memW selfY
    exact (if_neg otherZ).trans (congrArg (fun o => some (positionOf (placedRoster own roster) z - o)) ownIs)

end Sys2Proof.Machine
end

section
/-! SUPPORT. PVQ's taking of a sample: the slot it is taken for, and each outcome of the join rules as one state
(R94 to R100). -/

namespace Sys2Proof.Machine

/-! ## Another queue and other counts of a slot -/

/-- The state with another queue and other counts for a slot. -/
def putSlot (k : Slot) (q : List PreviewEntry) (c : SlotCounts) (s : State) : State :=
  match k with
  | .p => { s with pvq.queueP := q, pvq.countsP := c }
  | .s => { s with pvq.queueS := q, pvq.countsS := c }

section Join

variable {k : Slot} {e : PreviewEntry} {s : State}

theorem joinEntry_putSlot (q : List PreviewEntry) (c : SlotCounts) :
    joinEntry k e (putSlot k q c s) = crossCheck k e (putSlot k (q ++ [e]) c s) := by
  cases k <;> rfl

theorem joinEntry_raise_putSlot (q : List PreviewEntry) (c : SlotCounts) (d : Detail) :
    joinEntry k e ((putSlot k q c s).raise d) = crossCheck k e ((putSlot k (q ++ [e]) c s).raise d) := by
  cases k <;> rfl

theorem putSlot_self : putSlot k (slotQueue s k) (slotCounts s k) s = s := by cases k <;> rfl

theorem countGap_eq (missing : Nat) : countGap k missing s =
    putSlot k (slotQueue s k) { slotCounts s k with gap := addSat16 (slotCounts s k).gap missing } s := by
  cases k <;> rfl

theorem countOutOfOrder_eq : countOutOfOrder k s =
    putSlot k (slotQueue s k) { slotCounts s k with outOfOrder := addSat16 (slotCounts s k).outOfOrder 1 } s := by
  cases k <;> rfl

theorem makeRoom_putSlot_of_room {q : List PreviewEntry} (c : SlotCounts) (room : q.length < 256) :
    makeRoom k (putSlot k q c s) = putSlot k q c s := by
  unfold makeRoom queueCapacity
  refine if_neg ?_
  cases k <;> exact Nat.not_le.2 room

theorem makeRoom_putSlot_of_full {q : List PreviewEntry} (c : SlotCounts) (full : 256 ≤ q.length) :
    makeRoom k (putSlot k q c s) =
      (putSlot k q.tail { c with headDrop := addSat16 c.headDrop 1 } s).raise (.queueLoss (.preview k)) := by
  unfold makeRoom queueCapacity
  cases k <;> exact if_pos full

/-! ## The join rules (R96 to R99) -/

theorem joinOrRefuse_of_empty (empty : slotQueue s k = []) :
    joinOrRefuse k e s = crossCheck k e (putSlot k [e] (slotCounts s k) s) := by
  unfold joinOrRefuse
  rw [empty]
  conv_lhs => rw [← putSlot_self (k := k) (s := s)]
  exact (joinEntry_putSlot _ _).trans (by rw [empty]; rfl)

variable {tail : PreviewEntry} (last : (slotQueue s k).getLast? = some tail)
include last

theorem joinOrRefuse_of_refused (refused : mayJoin tail e = false) : joinOrRefuse k e s =
    putSlot k (slotQueue s k) { slotCounts s k with outOfOrder := addSat16 (slotCounts s k).outOfOrder 1 } s := by
  unfold joinOrRefuse
  rw [last, ← countOutOfOrder_eq]
  exact if_neg (Bool.eq_false_iff.1 refused)

theorem joinOrRefuse_of_joins (joins : mayJoin tail e = true) : joinOrRefuse k e s =
    joinEntry k e (makeRoom k (putSlot k (slotQueue s k) { slotCounts s k with
      gap := addSat16 (slotCounts s k).gap (missingBetween e.sequence tail.sequence) } s)) := by
  unfold joinOrRefuse
  rw [last, ← countGap_eq]
  exact if_pos joins

end Join

/-! ## The slot of a sample (R94) -/

theorem slotOf_eq_none {s : State} {id : Identity}
    (others : ∀ b, s.src.slotP = some b ∨ s.src.slotS = some b → b.identity ≠ id) : slotOf s id = none := by
  unfold slotOf
  cases p : s.src.slotP with
  | none => cases q : s.src.slotS with
    | none => rfl
    | some y => exact if_neg (others y (.inr q))
  | some x => cases q : s.src.slotS with
    | none => exact if_neg (others x (.inl p))
    | some y => exact (if_neg (others x (.inl p))).trans (if_neg (others y (.inr q)))

theorem slotOf_primary {s : State} {b : Source} (primary : s.src.slotP = some b) :
    slotOf s b.identity = some (.p, b.offset) := by
  unfold slotOf
  rw [primary]
  cases s.src.slotS <;> exact if_pos rfl

theorem slotOf_second {s : State} {b : Source} (second : s.src.slotS = some b)
    (notPrimary : s.src.slotP.any (fun x => x.identity = b.identity) = false) :
    slotOf s b.identity = some (.s, b.offset) := by
  unfold slotOf
  rw [second]
  cases primary : s.src.slotP with
  | none => exact if_pos rfl
  | some x =>
    rw [primary] at notPrimary
    exact (if_neg (of_decide_eq_false notPrimary)).trans (if_pos rfl)

/-- A valid sample of a bound source is put to the join rules of its slot. -/
theorem takeSample_of_bound {t : TrackSample} {s : State} {k : Slot} {offset : Int} (age : Nat)
    (bound : slotOf s t.source = some (k, offset)) (valid : t.valid = true) :
    takeSample t age s = joinOrRefuse k (entryOf t age offset s) s := by
  unfold takeSample
  rw [bound]
  exact if_pos valid

theorem takeSample_of_invalid {t : TrackSample} {s : State} (age : Nat) (invalid : t.valid = false) :
    takeSample t age s = s := by
  unfold takeSample
  cases slotOf s t.source with
  | none => rfl
  | some x => exact if_neg (Bool.eq_false_iff.1 invalid)

/-- Settles O42: the slot of the sample's source, and then the join rules of that slot. -/
theorem sampleJoinsItsSourcesQueue : Obligations.SampleJoinsItsSourcesQueue := by
  intro k age slot p s v correction entry q c gap isBound put
  refine ⟨fun unused => ?_, fun bound source valid => ?_⟩
  · obtain others | invalid := unused
    · change takeSample k age s = s
      rw [takeSample, slotOf_eq_none others]
    · exact takeSample_of_invalid age invalid
  · have inSlot : slotOf s k.source = some (slot, p.offset) := by
      rw [← source]
      cases slot with
      | p => exact slotOf_primary (eq_of_beq bound)
      | s =>
        obtain ⟨second, other⟩ := Bool.and_eq_true_iff.1 bound
        rw [← source, Bool.not_eq_true'] at other
        exact slotOf_second (eq_of_beq second) other
    have taken : v = joinOrRefuse slot entry s := takeSample_of_bound age inSlot valid
    have isQueue : q = slotQueue s slot := by cases slot <;> rfl
    have isCounts : c = slotCounts s slot := by cases slot <;> rfl
    have isPut : put = fun q c => putSlot slot q c s := by cases slot <;> rfl
    clear_value put
    subst isPut
    rw [taken]
    refine ⟨fun empty => ?_, fun tail last => ?_⟩
    · rw [joinOrRefuse_of_empty (isQueue ▸ empty), isCounts]
    · intro joins
      have isGap : gap = addSat16 (slotCounts s slot).gap (missingBetween entry.sequence tail.sequence) := by
        rw [← isCounts]
        change min 65535 (c.gap + ((entry.sequence - (q.getLast?.getD entry).sequence).toNat - 1)) = _
        rw [last]
        rfl
      refine ⟨fun refused => ?_, fun may room => ?_, fun may full => ?_⟩
      · rw [joinOrRefuse_of_refused (isQueue ▸ last) refused, isCounts, isQueue]
        rfl
      · rw [joinOrRefuse_of_joins (isQueue ▸ last) may, ← isGap, ← isCounts, ← isQueue,
          makeRoom_putSlot_of_room _ room, joinEntry_putSlot]
      · rw [joinOrRefuse_of_joins (isQueue ▸ last) may, ← isGap, ← isCounts, ← isQueue,
          makeRoom_putSlot_of_full _ full, joinEntry_raise_putSlot]
        rfl

end Sys2Proof.Machine
end

section
/-! SUPPORT. A control expiry after START stage by stage: the lookahead point, what SRC and PVQ leave, the mode and its
cause, the demand, and ACT's hand (R124 to R143, R147 to R153). -/

namespace Sys2Proof.Machine

/-! ## The stages up to the judgement of the mode (R124, R125, R133) -/

/-- The state with the speed of the expiry and its lookahead point. -/
def lookStage (s : State) : State := workLookahead { s with odo := evaluateSpeed s.odo }

/-- The state with SRC's judgement, both queues consumed, and P read. -/
def readStage (s : State) : State := workPreview (lookStage s)

/-- The state on which the mode is judged. -/
def modeGround (s : State) : State :=
  { workHold (readStage s) with
    dmd.standing := judgedStanding (workHold (readStage s)).rcl.trainState (workHold (readStage s)).dmd.standing }

theorem modeStage_eq (s : State) : modeStage s = takeMode (chosenMode (modeGround s)) (modeGround s) := rfl

/-- The lookahead distance at a speed and the point it leads to. -/
theorem lookStage_eq {s : State} {v : Nat} (speed : (evaluateSpeed s.odo).speed = v) :
    lookStage s = { s with
      odo.speed          := v
      dmd.lookahead      := min 40000 (v * s.svc.config.lookaheadTime / 1000)
      dmd.lookaheadPoint := some (s.odo.odometer +
        BitVec.ofNat 32 (min 40000 (v * s.svc.config.lookaheadTime / 1000))) } := by
  have odo := evaluateSpeed_eq s.odo
  rw [speed] at odo
  unfold lookStage workLookahead lookaheadDistance clampNat
  rw [odo]
  simp only [Nat.zero_max]

@[simp] theorem readStage_frame (s : State) :
    (readStage s).now = s.now ∧ (readStage s).odo = evaluateSpeed s.odo ∧ (readStage s).sns = s.sns ∧
    (readStage s).tsu = s.tsu ∧ (readStage s).rcl = s.rcl ∧ (readStage s).dmd = (lookStage s).dmd ∧
    (readStage s).act = s.act ∧ (readStage s).cso = s.cso ∧ (readStage s).svc.config = s.svc.config ∧
    (readStage s).src = (judgeAtExpiry (lookStage s)).src ∧ (readStage s).xck = (judgeAtExpiry (lookStage s)).xck ∧
    (readStage s).svc = (judgeAtExpiry (lookStage s)).svc := by
  refine ⟨?_, ?_, ?_, ?_, ?_, ?_, ?_, ?_, ?_, rfl, rfl, rfl⟩ <;> simp [readStage, lookStage]

@[simp] theorem modeGround_frame (s : State) :
    (modeGround s).now = s.now ∧ (modeGround s).odo = evaluateSpeed s.odo ∧ (modeGround s).sns = s.sns ∧
    (modeGround s).rcl = s.rcl ∧ (modeGround s).src = (readStage s).src ∧ (modeGround s).pvq = (readStage s).pvq ∧
    (modeGround s).xck = (readStage s).xck ∧ (modeGround s).dmd.mode = s.dmd.mode ∧
    (modeGround s).dmd.lastCause = s.dmd.lastCause ∧ (modeGround s).dmd.localInhibit = s.dmd.localInhibit ∧
    (modeGround s).dmd.standing = judgedStanding s.rcl.trainState s.dmd.standing ∧
    (modeGround s).dmd.heldDemand = s.dmd.heldDemand ∧ (modeGround s).dmd.lastDemand = s.dmd.lastDemand ∧
    (modeGround s).act = s.act ∧ (modeGround s).cso = s.cso ∧ (modeGround s).svc = (readStage s).svc := by
  simp [modeGround, lookStage, workLookahead]

theorem modeGround_holdRemainder (s : State) :
    (modeGround s).dmd.holdRemainder =
      if s.dmd.mode = .hold then
        ((s.dmd.holdRemainder : Int) - distanceDiff s.odo.odometer s.dmd.lastOdometer).toNat
      else s.dmd.holdRemainder := by
  have dmd : (readStage s).dmd = (lookStage s).dmd := by simp
  have odometer : (readStage s).odo.odometer = s.odo.odometer := by simp [evaluateSpeed_path]
  change (workHold (readStage s)).dmd.holdRemainder = _
  unfold workHold
  rw [dmd, odometer]
  change (if s.dmd.mode = .hold then _ else _ : State).dmd.holdRemainder = _
  split
  · rfl
  · rw [dmd]; rfl

/-! ## The mode and its cause (R126 to R136) -/

/-- The judgements behind the upright conditions. -/
def runningMode (s : State) : TiltMode × ModeCause :=
  if s.src.slotP.isSome && !s.xck.splitLatch && isCovered s.pvq.lastLookup then (.preview, .covered)
  else if s.dmd.mode = .preview || (s.dmd.mode = .hold && decide (0 < s.dmd.holdRemainder)) then (.hold, holdCause s)
  else if !s.sns.bogieHealth.fault then (.localBogie, if s.dmd.mode = .hold then .holdEnded else .noPreview)
  else (.upright, .bogieFault)

theorem chosenMode_of_failed {s : State} (failed : s.act.failedLatch = true) :
    chosenMode s = (.failed, .failedLatch) := if_pos failed

theorem chosenMode_of_upright {s : State} {cause : ModeCause} (holds : s.act.failedLatch = false)
    (upright : uprightCondition s = some cause) : chosenMode s = (.upright, cause) := by
  unfold chosenMode
  rw [upright, if_neg (by simp [holds])]

theorem chosenMode_of_running {s : State} (holds : s.act.failedLatch = false) (running : uprightCondition s = none) :
    chosenMode s = runningMode s := by
  unfold chosenMode runningMode
  rw [running, if_neg (by simp [holds])]

theorem speedUpright_iff (c : ConfigRecord) (before : TiltMode) (speed : Nat) :
    speedUpright c before speed = true ↔ speed < c.switchOff ∨ (before = .upright ∧ speed < c.switchOn) := by
  simp [speedUpright]

theorem ite_some_eq_none {α : Type} (c : Prop) [Decidable c] (a : α) (x : Option α) :
    (if c then some a else x) = none ↔ ¬c ∧ x = none := by
  split
  · next holds => exact ⟨fun impossible => (nomatch impossible), fun ⟨fails, _⟩ => absurd holds fails⟩
  · next fails => exact ⟨fun rest => ⟨fails, rest⟩, And.right⟩

theorem uprightCondition_eq_none_iff (s : State) : uprightCondition s = none ↔
    ¬(s.cso.inhibit = true ∨ s.dmd.localInhibit = true ∨ s.cso.orderInhibit = true ∨ s.dmd.standing ≠ .formed ∨
      s.odo.direction = .unknown ∨ s.odo.speed < s.svc.config.switchOff ∨
      (s.dmd.mode = .upright ∧ s.odo.speed < s.svc.config.switchOn) ∨ s.act.supplyOk = false) := by
  simp only [uprightCondition, ite_some_eq_none, speedUpright_iff, not_or, Bool.not_eq_true', and_assoc, and_true]

theorem getD_ite {α : Type} (c : Prop) [Decidable c] (x y : Option α) (a : α) :
    (if c then x else y).getD a = if c then x.getD a else y.getD a := apply_ite (Option.getD · a) c x y

/-- The first upright condition as the table of R128 gives it, with another cause where none holds. -/
theorem uprightCondition_getD (s : State) (other : ModeCause) :
    (uprightCondition s).getD other =
      if s.cso.inhibit then .inhibit
      else if s.dmd.localInhibit then .localInhibit
      else if s.cso.orderInhibit then .orderInhibit
      else if s.dmd.standing ≠ .formed then .train
      else if s.odo.direction = .unknown then .direction
      else if s.odo.speed < s.svc.config.switchOff ∨
        (s.dmd.mode = .upright ∧ s.odo.speed < s.svc.config.switchOn) then .speed
      else if s.act.supplyOk = false then .supply
      else other := by
  unfold uprightCondition
  simp only [getD_ite, Option.getD_some, Option.getD_none, speedUpright_iff, Bool.not_eq_true']

/-! ## What the mode's change leaves (R132, R136) -/

theorem takeMode_of_same {chosen : TiltMode × ModeCause} {s : State} (same : chosen.1 = s.dmd.mode) :
    takeMode chosen s = s := if_pos same

theorem takeMode_of_change {chosen : TiltMode × ModeCause} {s : State} (change : chosen.1 ≠ s.dmd.mode) :
    takeMode chosen s = ({ s with
      dmd.mode          := chosen.1
      dmd.lastCause     := some chosen.2
      dmd.holdRemainder :=
        if chosen.1 = TiltMode.hold then 50000 else if s.dmd.mode = TiltMode.hold then 0 else s.dmd.holdRemainder
      dmd.heldDemand    := if chosen.1 = TiltMode.hold then s.dmd.lastDemand else s.dmd.heldDemand }).raise
        (.modeChange s.dmd.mode chosen.1 chosen.2) := by
  unfold takeMode workHoldChange changeMode
  rw [if_neg change]
  split
  · rfl
  · split <;> rfl

/-! ## The stages behind the mode (R137 to R144) -/

theorem controlExpiry_dmd {s : State} (done : s.svc.startState = .done) :
    (controlExpiry s).dmd = { (modeStage s).dmd with
      lastDemand   := modeDemand (modeStage s)
      target       := modeTarget (workDemand (modeStage s))
      command      := (controlExpiry s).dmd.command
      lastOdometer := s.odo.odometer } := by
  rw [controlExpiry_eq done]
  simp [workHand, workCommand, workTarget, workDemand, evaluateSpeed_path]

/-- What an expiry after START leaves beside DMD, ACT and the events. -/
theorem controlExpiry_units {s : State} (done : s.svc.startState = .done) :
    (controlExpiry s).odo = evaluateSpeed s.odo ∧ (controlExpiry s).src = (readStage s).src ∧
    (controlExpiry s).pvq = (readStage s).pvq ∧ (controlExpiry s).xck = (readStage s).xck := by
  rw [controlExpiry_eq done]
  simp [modeStage_eq]

theorem controlExpiry_events {s : State} (done : s.svc.startState = .done) :
    RaisesOnly (· = .actuatorFault) (modeStage s).svc.events (controlExpiry s).svc.events := by
  rw [controlExpiry_eq done]
  exact handCommand_raises (workCommand (workTarget (workDemand (modeStage s))))

theorem modeStage_events (s : State) :
    RaisesOnly (· = .modeChange) (judgeAtExpiry (lookStage s)).svc.events (modeStage s).svc.events := by
  have chain := takeMode_raises (chosenMode (modeGround s)) (modeGround s)
  rw [(modeGround_frame s).2.2.2.2.2.2.2.2.2.2.2.2.2.2.2] at chain
  exact chain

/-- What an expiry changes. -/
theorem controlExpiry_changes (s : State) : controlExpiry s = { s with
    odo        := (controlExpiry s).odo
    src        := (controlExpiry s).src
    pvq        := (controlExpiry s).pvq
    xck        := (controlExpiry s).xck
    dmd        := (controlExpiry s).dmd
    act        := (controlExpiry s).act
    svc.events := (controlExpiry s).svc.events } := by
  obtain ⟨now, sns, tsu, portA, portB, rcl, -, -, -, -, -, -, -, -, -, -, -, -, cso, startState, loadTime, tryTime, config,
    unconfigured, clamped, loadFault, serial, inhibitLatch, supplyLatch, malformed, answer, pending⟩ := controlExpiry_frame s
  generalize controlExpiry s = v at *
  dsimp only
  rw [← now, ← sns, ← tsu, ← portA, ← portB, ← rcl, ← cso, ← startState, ← loadTime, ← tryTime, ← config, ← unconfigured,
    ← clamped, ← loadFault, ← serial, ← inhibitLatch, ← supplyLatch, ← malformed, ← answer, ← pending]

/-! ## The lookahead point, SRC and PVQ -/

/-- Consumption leaves a queue whose second entry is after the point. -/
theorem consume_of_settled {lp : Distance} {q : List PreviewEntry}
    (settled : ∀ h e rest, q = h :: e :: rest → isAfter e.due lp = true) : consume lp q = q := by
  match q with
  | [] => rfl
  | [_] => rfl
  | h :: e :: rest => exact consume_cons_of_after (settled h e rest rfl) h rest

theorem consume_consume (lp : Distance) (q : List PreviewEntry) : consume lp (consume lp q) = consume lp q :=
  consume_of_settled (consume_spec lp q).2.2

/-- Settles O45: the stages up to the lookup, and what is left alone behind them. -/
theorem expiryReadsAtTheLookaheadPoint : Obligations.ExpiryReadsAtTheLookaheadPoint := by
  intro t s u since
  have answered : exec (.controlExpiry t) s = .next (controlExpiry u) := rfl
  rw [answered, completes_next, controlExpiry_odo]
  intro far point judged
  have looks : lookStage u = { u with
      odo.speed := (evaluateSpeed u.odo).speed, dmd.lookahead := far, dmd.lookaheadPoint := some point } := lookStage_eq rfl
  have isJudged : judged = judgeAtExpiry (lookStage u) := by rw [looks]
  refine ⟨fun period v timed => evaluateSpeed_timed timed, fun notTimed => by rw [evaluateSpeed_of_not_timed notTimed],
    evaluateSpeed_eq _, fun loading => ?_, fun done => ?_⟩
  · rw [controlExpiry_of_loading loading, ← evaluateSpeed_eq]
  · obtain ⟨-, src, pvq, xck⟩ := controlExpiry_units done
    have dmd := controlExpiry_dmd done
    have isPvq : (readStage u).pvq = { judged.pvq with
        queueP := consume point judged.pvq.queueP, queueS := consume point judged.pvq.queueS
        lastLookup := some (lookup point (consume point judged.pvq.queueP)) } := by
      rw [isJudged]
      unfold readStage workPreview currentPoint
      rw [looks]
      rfl
    have look : (modeStage u).dmd.lookahead = far ∧ (modeStage u).dmd.lookaheadPoint = some point := by
      simp [modeStage_eq, modeGround, looks]
    have kept := (modeStage_events u).mono (wider := fun k => k = .modeChange ∨ k = .actuatorFault) fun _ => .inl
    have events := kept.trans ((controlExpiry_events done).mono fun _ => .inr)
    refine ⟨by rw [dmd]; exact look.1, by rw [dmd]; exact look.2, by rw [dmd], ?_, ?_, ?_, ?_, ?_, by simp, by simp,
      by simp, by simp, by simp, by simp, by simp, fun k notMode notFault => ?_, ?_⟩
    · rw [src, isJudged]; simp
    · rw [xck, isJudged]; simp
    · rw [pvq, isPvq]
    · rw [pvq, isPvq]; exact consume_consume _ _
    · rw [pvq, isPvq]; exact consume_consume _ _
    · rw [isJudged]
      exact events.record_eq fun either => either.elim notMode notFault
    · rw [← controlExpiry_odo]
      exact controlExpiry_changes u

/-! ## The mode of an expiry -/

section Mode

variable {s : State} (done : s.svc.startState = .done)
include done

theorem controlExpiry_mode_eq : (controlExpiry s).dmd.mode = (chosenMode (modeGround s)).1 := by
  rw [controlExpiry_dmd done, modeStage_eq]
  exact takeMode_mode _ _

theorem controlExpiry_standing :
    (controlExpiry s).dmd.standing = if s.rcl.trainState = .forming then s.dmd.standing else s.rcl.trainState := by
  have standing : (modeGround s).dmd.standing = judgedStanding s.rcl.trainState s.dmd.standing := by simp
  rw [controlExpiry_dmd done, modeStage_eq]
  by_cases same : (chosenMode (modeGround s)).1 = (modeGround s).dmd.mode
  · rw [takeMode_of_same same]; exact standing
  · rw [takeMode_of_change same]; exact standing

/-- SRC's step leaves MODE-CHANGE, and so does ACT's hand. -/
theorem controlExpiry_modeChange :
    (controlExpiry s).svc.events.modeChange = (modeStage s).svc.events.modeChange ∧
      (modeGround s).svc.events.modeChange = s.svc.events.modeChange := by
  have look : (lookStage s).svc = s.svc := by simp [lookStage]
  have ground : (modeGround s).svc = (judgeAtExpiry (lookStage s)).svc := by simp
  have source := (judgeAtExpiry_raises (lookStage s)).record_eq (k := .modeChange) (by simp [ofSourceStep])
  rw [look, ← ground] at source
  exact ⟨(controlExpiry_events done).record_eq (k := .modeChange) (by simp), source⟩

/-- An expiry that keeps the mode. -/
theorem controlExpiry_of_same (same : (controlExpiry s).dmd.mode = s.dmd.mode) :
    (controlExpiry s).dmd.lastCause = s.dmd.lastCause ∧
    (controlExpiry s).svc.events.modeChange = s.svc.events.modeChange ∧
    (controlExpiry s).dmd.holdRemainder = (modeGround s).dmd.holdRemainder ∧
    (controlExpiry s).dmd.heldDemand = s.dmd.heldDemand := by
  have mode : (modeGround s).dmd.mode = s.dmd.mode := by simp
  have kept : modeStage s = modeGround s :=
    takeMode_of_same ((controlExpiry_mode_eq done).symm.trans (same.trans mode.symm))
  obtain ⟨hand, ground⟩ := controlExpiry_modeChange done
  rw [hand, kept, ground, controlExpiry_dmd done, kept]
  simp

/-- An expiry that changes the mode. -/
theorem controlExpiry_of_change (change : (controlExpiry s).dmd.mode ≠ s.dmd.mode) :
    (controlExpiry s).dmd.lastCause = some (chosenMode (modeGround s)).2 ∧
    (controlExpiry s).svc.events.modeChange =
      (s.raise (.modeChange s.dmd.mode (controlExpiry s).dmd.mode
        (chosenMode (modeGround s)).2)).svc.events.modeChange ∧
    (controlExpiry s).dmd.holdRemainder =
      (if (controlExpiry s).dmd.mode = .hold then 50000 else if s.dmd.mode = .hold then 0 else s.dmd.holdRemainder) ∧
    (controlExpiry s).dmd.heldDemand =
      if (controlExpiry s).dmd.mode = .hold then s.dmd.lastDemand else s.dmd.heldDemand := by
  have mode : (modeGround s).dmd.mode = s.dmd.mode := by simp
  have lastDemand : (modeGround s).dmd.lastDemand = s.dmd.lastDemand := by simp
  have heldDemand : (modeGround s).dmd.heldDemand = s.dmd.heldDemand := by simp
  have remainder := modeGround_holdRemainder s
  obtain ⟨hand, ground⟩ := controlExpiry_modeChange done
  have chosen := controlExpiry_mode_eq done
  have changes := (modeStage_eq s).trans (takeMode_of_change fun same => change (chosen.trans (same.trans mode)))
  rw [mode, lastDemand, heldDemand, ← chosen] at changes
  refine ⟨?_, ?_, ?_, ?_⟩
  · rw [controlExpiry_dmd done, changes]; rfl
  · rw [hand, changes]
    exact congrArg (raisedRecord _) ground
  · have stage : (controlExpiry s).dmd.holdRemainder = (modeStage s).dmd.holdRemainder := by
      rw [controlExpiry_dmd done]
    rw [stage, changes]
    change (if (controlExpiry s).dmd.mode = .hold then 50000 else if s.dmd.mode = .hold then 0
      else (modeGround s).dmd.holdRemainder) = _
    rw [remainder]
    by_cases held : s.dmd.mode = .hold
    · simp only [held, if_true]
    · simp only [held, if_false]
  · have stage : (controlExpiry s).dmd.heldDemand = (modeStage s).dmd.heldDemand := by rw [controlExpiry_dmd done]
    rw [stage, changes]
    rfl

end Mode

theorem holdCause_eq (s : State) : holdCause s =
    if s.src.slotP = none then .pEmpty
    else if s.xck.splitLatch then .split
    else if s.pvq.lastLookup = some .before then .before
    else if s.pvq.lastLookup = some .hole then .hole else .beyond := by
  simp only [holdCause, Option.isNone_iff_eq_none]
  cases s.pvq.lastLookup with
  | none => rfl
  | some l => cases l <;> rfl

/-- Settles O46: the judgements in their order, and the cause by the judgement that applies. -/
theorem expiryChoosesTheFirstJudgement : Obligations.ExpiryChoosesTheFirstJudgement := by
  intro t s u done
  have answered : exec (.controlExpiry t) s = .next (controlExpiry u) := rfl
  rw [answered, completes_next]
  intro remainder upright cause covered
  obtain ⟨odo, src, pvq, xck⟩ := controlExpiry_units done
  have mode := controlExpiry_mode_eq done
  have standing := controlExpiry_standing done
  have ground := modeGround_frame u
  have groundRemainder := modeGround_holdRemainder u
  rw [← src, ← pvq, ← xck, ← odo] at ground
  obtain ⟨-, groundOdo, groundSns, -, groundSrc, groundPvq, groundXck, groundMode, -, groundLocal, groundStanding, -, -,
    groundAct, groundCso, groundSvc⟩ := ground
  have same := controlExpiry_of_same done
  have change := controlExpiry_of_change done
  have config : (readStage u).svc.config = u.svc.config := by simp [lookStage]
  rw [← groundSvc] at config
  have direction : (controlExpiry u).odo.direction = u.odo.direction := by rw [odo, (evaluateSpeed_path _).1]
  replace groundStanding := groundStanding.trans standing.symm
  generalize modeGround u = m at *
  have isUpright : uprightCondition m = none ↔ ¬upright := by
    rw [uprightCondition_eq_none_iff, groundCso, groundLocal, groundStanding, groundOdo, direction, groundMode, groundAct,
      config]
  have others (inner : ModeCause) : (uprightCondition m).getD inner =
      if u.cso.inhibit then .inhibit
      else if u.dmd.localInhibit then .localInhibit
      else if u.cso.orderInhibit then .orderInhibit
      else if (controlExpiry u).dmd.standing ≠ .formed then .train
      else if u.odo.direction = .unknown then .direction
      else if (controlExpiry u).odo.speed < u.svc.config.switchOff ∨
        (u.dmd.mode = .upright ∧ (controlExpiry u).odo.speed < u.svc.config.switchOn) then .speed
      else if u.act.supplyOk = false then .supply
      else inner := by
    rw [uprightCondition_getD, groundCso, groundLocal, groundStanding, groundOdo, direction, groundMode, groundAct, config]
  have runs : runningMode m =
      if (controlExpiry u).src.slotP.isSome = true ∧ (controlExpiry u).xck.splitLatch = false ∧ covered = true then
        (.preview, .covered)
      else if u.dmd.mode = .preview ∨ (u.dmd.mode = .hold ∧ 0 < remainder) then (.hold, holdCause m)
      else if u.sns.bogieHealth.fault then (.upright, .bogieFault)
      else (.localBogie, if u.dmd.mode = .hold then .holdEnded else .noPreview) := by
    have isCovered : isCovered m.pvq.lastLookup = covered := by rw [groundPvq]; rfl
    unfold runningMode
    rw [isCovered, groundSrc, groundXck, groundMode, groundRemainder, groundSns]
    refine if_congr (by simp [and_assoc]) rfl (if_congr ?_ rfl ?_)
    · rw [Bool.or_eq_true, Bool.and_eq_true, decide_eq_true_eq, decide_eq_true_eq, decide_eq_true_eq]
      exact or_congr_right (and_congr_right fun held => by rw [if_pos held])
    · cases u.sns.bogieHealth.fault <;> rfl
  have holds := holdCause_eq m
  rw [groundSrc, groundXck, groundPvq] at holds
  have isCause : (chosenMode m).2 = cause := by
    by_cases failed : u.act.failedLatch = true
    · rw [chosenMode_of_failed (groundAct ▸ failed)]
      exact (if_pos failed).symm
    · refine Eq.trans ?_ (if_neg failed).symm
      have clear : m.act.failedLatch = false := by simpa [groundAct] using failed
      refine Eq.trans ?_ (others _)
      cases judged : uprightCondition m with
      | some c => rw [chosenMode_of_upright clear judged]; rfl
      | none =>
        rw [mode, chosenMode_of_running clear judged, runs]
        split
        · rfl
        · split
          · exact holds
          · split <;> rfl
  refine ⟨standing, ?_, fun changes => ?_, fun keeps => ?_, fun entersHold notHold => ?_, fun isHold wasHold => ?_,
    fun notHold wasHold => ?_, fun notHold wasNot => ?_, fun notHold => ?_⟩
  · rw [mode]
    by_cases failed : u.act.failedLatch = true
    · rw [chosenMode_of_failed (groundAct ▸ failed), if_pos failed]
    · have clear : m.act.failedLatch = false := by simpa [groundAct] using failed
      rw [if_neg failed]
      cases judged : uprightCondition m with
      | some c =>
        have holdsUpright : upright := by
          by_contra none
          exact absurd (isUpright.2 none) (by simp [judged])
        rw [chosenMode_of_upright clear judged, if_pos holdsUpright]
      | none =>
        rw [chosenMode_of_running clear judged, runs, if_neg (isUpright.1 judged)]
        split
        · rfl
        · split
          · rfl
          · split <;> rfl
  · rw [← isCause]
    exact ⟨(change changes).1, (change changes).2.1⟩
  · exact ⟨(same keeps).1, (same keeps).2.1⟩
  · obtain ⟨-, -, span, held⟩ := change fun keeps => notHold (keeps ▸ entersHold)
    exact ⟨span.trans (if_pos entersHold), held.trans (if_pos entersHold)⟩
  · obtain ⟨-, -, span, held⟩ := same (isHold.trans wasHold.symm)
    exact ⟨span.trans (groundRemainder.trans (if_pos wasHold)), held⟩
  · obtain ⟨-, -, span, -⟩ := change fun keeps => notHold (keeps.trans wasHold)
    exact span.trans ((if_neg notHold).trans (if_pos wasHold))
  · by_cases keeps : (controlExpiry u).dmd.mode = u.dmd.mode
    · obtain ⟨-, -, span, -⟩ := same keeps
      exact span.trans (groundRemainder.trans (if_neg wasNot))
    · obtain ⟨-, -, span, -⟩ := change keeps
      exact span.trans ((if_neg notHold).trans (if_neg wasNot))
  · by_cases keeps : (controlExpiry u).dmd.mode = u.dmd.mode
    · exact (same keeps).2.2.2
    · exact (change keeps).2.2.2.trans (if_neg notHold)

/-! ## The demand, the target and the command (R138 to R143) -/

/-- PREVIEW is chosen with P covered alone (R131). -/
theorem covered_of_preview {s : State} (preview : (chosenMode s).1 = .preview) :
    ∃ a, s.pvq.lastLookup = some (.covered a) := by
  cases failed : s.act.failedLatch with
  | true => rw [chosenMode_of_failed failed] at preview; cases preview
  | false =>
    cases judged : uprightCondition s with
    | some c => rw [chosenMode_of_upright failed judged] at preview; cases preview
    | none =>
      rw [chosenMode_of_running failed judged] at preview
      unfold runningMode at preview
      split at preview
      · next covers =>
        have covered : isCovered s.pvq.lastLookup = true := (Bool.and_eq_true_iff.1 covers).2
        unfold isCovered at covered
        split at covered
        · next a reads => exact ⟨a, reads⟩
        · cases covered
      · split at preview
        · cases preview
        · split at preview <;> cases preview

/-- What the demand and the target of an expiry are worked out from. -/
theorem modeStage_operands {s : State} (done : s.svc.startState = .done) :
    (modeStage s).dmd.mode = (controlExpiry s).dmd.mode ∧ (modeStage s).pvq = (controlExpiry s).pvq ∧
    (modeStage s).dmd.heldDemand = (controlExpiry s).dmd.heldDemand ∧
    (∀ e, neighbourAngle (workDemand (modeStage s)) e = neighbourAngle s e) := by
  refine ⟨by rw [controlExpiry_dmd done], ?_, by rw [controlExpiry_dmd done], fun e => ?_⟩
  · rw [(controlExpiry_units done).2.2.1, modeStage_eq]
    simp
  · simp [neighbourAngle, neighbour]

/-- Settles O47: the demand and the target by the mode, and the command one rate step nearer. -/
theorem expiryStepsCommandTowardTarget : Obligations.ExpiryStepsCommandTowardTarget := by
  intro t s u conversion angleLimit step done
  have answered : exec (.controlExpiry t) s = .next (controlExpiry u) := rfl
  rw [answered, completes_next]
  obtain ⟨mode, pvq, held, angles⟩ := modeStage_operands done
  have demand : (controlExpiry u).dmd.lastDemand = modeDemand (modeStage u) := by rw [controlExpiry_dmd done]
  have config : (modeStage u).svc.config = u.svc.config := by simp
  have sns : (modeStage u).sns = u.sns := by simp
  refine ⟨fun preview => ?_, fun notPreview => ?_, ?_, controlExpiry_command done⟩
  · obtain ⟨a, covers⟩ := covered_of_preview ((controlExpiry_mode_eq done).symm.trans preview)
    have reads : (controlExpiry u).pvq.lastLookup = some (.covered a) := by
      rw [(controlExpiry_units done).2.2.1, ← covers]
      simp
    refine ⟨a, reads, ?_⟩
    rw [demand, modeDemand, mode, preview, config, pvq, reads]
    rfl
  · rw [demand, modeDemand, mode, config, sns, held]
    cases isMode : (controlExpiry u).dmd.mode with
    | preview => exact absurd isMode notPreview
    | _ => rfl
  · have operands : (workDemand (modeStage u)).dmd.mode = (controlExpiry u).dmd.mode ∧
        (workDemand (modeStage u)).svc.config = u.svc.config ∧
        (workDemand (modeStage u)).dmd.lastDemand = (controlExpiry u).dmd.lastDemand := ⟨mode, config, demand.symm⟩
    obtain ⟨isMode, isConfig, isDemand⟩ := operands
    rw [controlExpiry_target done, modeTarget, isMode, isConfig, isDemand, angles, angles]
    cases (controlExpiry u).dmd.mode <;> rfl

/-! ## ACT's hand (R147, R148, R152 to R154) -/

/-- What stands before the hand. -/
theorem modeStage_actuatorFault (s : State) : (modeStage s).svc.events.actuatorFault = s.svc.events.actuatorFault := by
  have look : (lookStage s).svc = s.svc := by simp [lookStage]
  have source := (judgeAtExpiry_raises (lookStage s)).record_eq (k := .actuatorFault) (by simp [ofSourceStep])
  rw [look] at source
  exact ((modeStage_events s).record_eq (k := .actuatorFault) (by simp)).trans source

/-- ACTUATOR-FAULT after a hand. -/
theorem handCommand_actuatorFault (s : State) : (handCommand s).svc.events.actuatorFault =
    if handFails s.dmd.mode (trackingError s) s.act then
      raisedRecord (.actuatorFault .tracking s.act.failedLatch) s.svc.events.actuatorFault
    else s.svc.events.actuatorFault := by
  rw [handCommand_eq]
  dsimp only
  split <;> rfl

theorem controlExpiry_actuatorFault {s : State} (done : s.svc.startState = .done) :
    (controlExpiry s).svc.events.actuatorFault =
      if handFails (controlExpiry s).dmd.mode ((controlExpiry s).dmd.command - s.sns.lastBody) s.act then
        raisedRecord (.actuatorFault .tracking s.act.failedLatch) s.svc.events.actuatorFault
      else s.svc.events.actuatorFault := by
  rw [← modeStage_actuatorFault s, controlExpiry_eq done]
  refine (handCommand_actuatorFault _).trans ?_
  simp [trackingError]

/-- A hand that is on finds the FAILED latch clear. -/
theorem failedLatch_of_mode {s : State} (done : s.svc.startState = .done)
    (notFailed : (controlExpiry s).dmd.mode ≠ .failed) : s.act.failedLatch = false := by
  rw [Bool.eq_false_iff]
  intro latched
  have ground : (modeGround s).act.failedLatch = true := by simpa using latched
  exact notFailed (by rw [controlExpiry_mode_eq done, chosenMode_of_failed ground])

/-- Settles O50: the hand as the one equation of ACT, and ACTUATOR-FAULT where the monitor fails the car. -/
theorem handDrivesAndMonitors : Obligations.HandDrivesAndMonitors := by
  intro t s u done
  have answered : exec (.controlExpiry t) s = .next (controlExpiry u) := rfl
  rw [answered, completes_next]
  intro on e duty count
  have isOn : enableAfter (controlExpiry u).dmd.mode u.act.supplyOk = true ↔ on := enableAfter_iff _ _
  have act : (controlExpiry u).act = handAct (controlExpiry u).dmd.mode e u.act := controlExpiry_act done
  have fault := controlExpiry_actuatorFault done
  have clear : on → u.act.failedLatch = false := fun ⟨_, notFailed, _⟩ => failedLatch_of_mode done notFailed
  have errors : largeErrors e u.act = count := rfl
  constructor
  · rw [act, handAct]
    by_cases isOff : ¬on
    · rw [if_pos isOff, if_pos (Bool.eq_false_iff.2 fun isEnabled => isOff (isOn.1 isEnabled))]
      rfl
    · rw [if_neg isOff, if_neg (by simp [isOn.2 (not_not.1 isOff)]), errors]
      split
      · rfl
      · split
        · rfl
        · split
          · rw [latchFailure, if_neg (by simp [clear (not_not.1 isOff)])]
          · rfl
  · rw [fault]
    have fails : handFails (controlExpiry u).dmd.mode e u.act = true ↔
        on ∧ u.act.enable = true ∧ u.act.blanking ≤ 1 ∧ 100 ≤ count := by
      rw [← isOn, ← errors]
      simp [handFails, and_assoc]
    by_cases failing : on ∧ u.act.enable = true ∧ u.act.blanking ≤ 1 ∧ 100 ≤ count
    · rw [if_pos failing, if_pos (fails.2 failing), clear failing.1]
      rfl
    · rw [if_neg failing, if_neg fun holds => failing (fails.1 holds)]

end Sys2Proof.Machine
end

section
/-! SUPPORT. The neighbour view and the gangway clamp, the two input lines with their debounced changes, CAR-STATE and tilt
orders (R141, R150, R151, R159 to R165). -/

namespace Sys2Proof.Machine

/-! ## The neighbour view (R161, R162) -/

theorem reportNeighbour_of_other {e : End} {hop : Byte} {c : CarStateFrame} {s : State}
    (other : (neighbour s e).identity ≠ some c.identity ∨ hop ≠ 0) : reportNeighbour e hop c s = s := by
  refine if_neg fun is => ?_
  obtain ⟨known, first⟩ := Bool.and_eq_true_iff.1 is
  exact other.elim (fun unknown => unknown (of_decide_eq_true known)) fun behind => behind (of_decide_eq_true first)

/-- A CAR-STATE of the hop-0 neighbour is that side's report. -/
theorem reportNeighbour_of_neighbour {e : End} {hop : Byte} {c : CarStateFrame} {s : State}
    (known : (neighbour s e).identity = some c.identity) (first : hop = 0) :
    neighbour (reportNeighbour e hop c s) e = ⟨some c.identity, some ⟨s.now, c.theta.toInt⟩⟩ ∧
    neighbour (reportNeighbour e hop c s) (otherEnd e) = neighbour s (otherEnd e) ∧
    reportNeighbour e hop c s = { s with
      cso.neighbourA := (reportNeighbour e hop c s).cso.neighbourA
      cso.neighbourB := (reportNeighbour e hop c s).cso.neighbourB } := by
  have is : (decide ((neighbour s e).identity = some c.identity) && decide (hop = 0)) = true := by simp [known, first]
  unfold reportNeighbour
  rw [if_pos is]
  cases e with
  | a => exact ⟨congrArg (Neighbour.mk · _) known, rfl, rfl⟩
  | b => exact ⟨congrArg (Neighbour.mk · _) known, rfl, rfl⟩

/-- A report serves for 200 ms. -/
theorem neighbourAngle_of_report {s : State} {e : End} {id : Identity} {time later : Nat} {theta : Int}
    (reports : neighbour s e = ⟨some id, some ⟨time, theta⟩⟩) (now : s.now = time + later) :
    neighbourAngle s e = some (if later ≤ 200000 then theta else 0) := by
  have elapsed : s.now - time = later := by omega
  unfold neighbourAngle isWithin
  rw [reports]
  simp only [elapsed, show ms 200 = 200000 from rfl, decide_eq_true_eq]
  split <;> rfl

/-! ## The gangway clamp (R141) -/

theorem gangwayClamp_one (g : Nat) (n demand : Int) :
    |gangwayClamp g (some n) none demand - n| ≤ g ∧
    (|demand - n| ≤ g → gangwayClamp g (some n) none demand = demand) ∧
    (n + g < demand → gangwayClamp g (some n) none demand = n + g) ∧
    (demand < n - g → gangwayClamp g (some n) none demand = n - g) := by
  simp only [gangwayClamp, clampInt, abs_le]
  omega

theorem gangwayClamp_near {g : Nat} {m n : Int} (demand : Int) (near : |m - n| ≤ 2 * g) :
    |gangwayClamp g (some m) (some n) demand - m| ≤ g ∧ |gangwayClamp g (some m) (some n) demand - n| ≤ g ∧
    (|demand - m| ≤ g → |demand - n| ≤ g → gangwayClamp g (some m) (some n) demand = demand) ∧
    (min m n + g < demand → gangwayClamp g (some m) (some n) demand = min m n + g) ∧
    (demand < max m n - g → gangwayClamp g (some m) (some n) demand = max m n - g) := by
  rw [abs_le] at near
  have meet : ¬(min m n + (g : Int) < max m n - g) := by omega
  simp only [gangwayClamp, if_neg meet, clampInt, abs_le]
  omega

theorem gangwayClamp_apart {g : Nat} {m n : Int} (demand : Int) (apart : 2 * g < |m - n|) :
    gangwayClamp g (some m) (some n) demand = (m + n).tdiv 2 := by
  rw [lt_abs] at apart
  exact if_pos (by omega)

/-- Settles O49: the neighbour's own side and hop, and the clamp by the distance between the neighbours. -/
theorem gangwayClampHoldsNearNeighbours : Obligations.GangwayClampHoldsNearNeighbours := by
  refine ⟨fun e hop c later s => ?_, fun g demand => ⟨rfl, fun n => ⟨rfl, gangwayClamp_one g n demand⟩, fun m n =>
    ⟨gangwayClamp_near demand, gangwayClamp_apart demand⟩⟩⟩
  intro v reading
  refine ⟨rfl, rfl, fun known first => ?_, reportNeighbour_of_other, fun none => ?_, fun id silent => ?_⟩
  · obtain ⟨reports, other, changes⟩ := reportNeighbour_of_neighbour known first
    have read : neighbour reading e = neighbour v e := by cases e <;> rfl
    exact ⟨neighbourAngle_of_report (read.trans reports) rfl, other, reports, changes⟩
  · unfold neighbourAngle
    rw [none]
  · unfold neighbourAngle
    rw [silent]

/-! ## The two input lines (R150, R151, R163) -/

theorem isTilting_iff (mode : TiltMode) :
    isTilting mode = true ↔ mode = .localBogie ∨ mode = .preview ∨ mode = .hold := by
  cases mode <;> simp [isTilting]

/-- The state with the report of a fall of SUPPLY-OK in a tilting mode. -/
def supplyTold (s : State) : State :=
  if s.act.rawSupply = false ∧ isTilting s.dmd.mode = true then s.raise (.actuatorFault .supply s.act.failedLatch) else s

theorem supplyTold_events (s : State) : ∃ es, supplyTold s = { s with svc.events := es } := by
  unfold supplyTold
  split
  · exact ⟨_, rfl⟩
  · exact ⟨s.svc.events, rfl⟩

/-- A debounced change of SUPPLY-OK: ACT and its report, and then the latch. -/
theorem supplyChanges_eq (s : State) : supplyChanges s =
    handCondition .supplyOk { supplyTold s with act := supplyAct (isTilting s.dmd.mode) s.act } := by
  unfold supplyChanges supplyTold supplyAct
  dsimp only
  by_cases raw : s.act.rawSupply = true
  · have high : ¬(s.act.rawSupply = false ∧ isTilting s.dmd.mode = true) := by simp [raw]
    rw [if_neg high, if_pos raw, if_pos raw]
  · have low : s.act.rawSupply = false := by simpa using raw
    rw [if_neg raw, if_neg raw]
    by_cases tilts : isTilting s.dmd.mode = true
    · rw [if_pos (And.intro low tilts), if_pos tilts, if_pos tilts, failActuator_eq]
      rfl
    · rw [if_neg tilts, if_neg tilts, if_neg fun both : _ ∧ _ => tilts both.2]
      rfl

/-- ACT after a debounced change of SUPPLY-OK, by the level and the mode. -/
theorem supplyAct_eq (tilting : Bool) (a : Act) : supplyAct tilting a =
    if a.rawSupply = true then { a with supplyOk := a.rawSupply, debounceTime := 0 }
    else if tilting = true ∧ a.failedLatch = false then
      { a with supplyOk := a.rawSupply, debounceTime := 0, enable := false, duty := 0, blanking := 0, trackingCount := 0
               failedLatch := true, failureCause := some .supply }
    else { a with supplyOk := a.rawSupply, debounceTime := 0, enable := false, duty := 0, blanking := 0, trackingCount := 0 } := by
  unfold supplyAct latchFailure
  split
  · rfl
  · cases tilting
    · rfl
    · cases latch : a.failedLatch <;> simp [dropDrive]

theorem supplyAct_supplyOk (tilting : Bool) (a : Act) : (supplyAct tilting a).supplyOk = a.rawSupply := by
  rw [supplyAct_eq]
  split
  · rfl
  · split <;> rfl

/-- A line's latch that is pending keeps its value. -/
theorem handCondition_of_pending {line : ConditionLine} {s : State} (pending : (conditionLatch s line).pending = true) :
    handCondition line s = s := if_pos pending

theorem handCondition_supplyOk {s : State} (rest : s.svc.supplyLatch.pending = false) :
    handCondition .supplyOk s = ({ s with svc.supplyLatch := ⟨s.act.supplyOk, true⟩ }).raise
      (.conditionChange .supplyOk s.svc.inhibitLatch.value s.act.supplyOk) := if_neg (Bool.eq_false_iff.1 rest)

theorem handCondition_inhibit {s : State} (rest : s.svc.inhibitLatch.pending = false) :
    handCondition .inhibit s = ({ s with svc.inhibitLatch := ⟨s.cso.inhibit, true⟩ }).raise
      (.conditionChange .inhibit s.cso.inhibit s.svc.supplyLatch.value) := if_neg (Bool.eq_false_iff.1 rest)

/-- CONDITION-CHANGE as it stands after its raising. -/
theorem raised_conditionChange (line : ConditionLine) (inhibit supply : Bool) (s : State) :
    (s.raise (.conditionChange line inhibit supply)).svc.events.conditionChange.pending = true ∧
    (s.raise (.conditionChange line inhibit supply)).svc.events.conditionChange.detail =
      some (.conditionChange line inhibit supply) :=
  ⟨raisedRecord_pending _ _, raisedRecord_detail (by simp [kindOf]) _⟩

/-- A debounced change of SUPPLY-OK, by the latch. -/
theorem supplyChanges_of_pending {s : State} (pending : s.svc.supplyLatch.pending = true) :
    supplyChanges s = { supplyTold s with act := supplyAct (isTilting s.dmd.mode) s.act } := by
  obtain ⟨es, told⟩ := supplyTold_events s
  rw [supplyChanges_eq, told]
  exact handCondition_of_pending pending

theorem supplyChanges_of_rest {s : State} (rest : s.svc.supplyLatch.pending = false) :
    supplyChanges s = { (supplyTold s).raise (.conditionChange .supplyOk s.svc.inhibitLatch.value s.act.rawSupply) with
      act             := supplyAct (isTilting s.dmd.mode) s.act
      svc.supplyLatch := ⟨s.act.rawSupply, true⟩ } := by
  obtain ⟨es, told⟩ := supplyTold_events s
  have rests : (supplyTold s).svc.supplyLatch.pending = false := by rw [told]; exact rest
  rw [supplyChanges_eq, handCondition_supplyOk
    (s := { supplyTold s with act := supplyAct (isTilting s.dmd.mode) s.act }) rests]
  dsimp only
  rw [supplyAct_supplyOk, told]
  rfl

/-- A debounced change of INHIBIT, by the latch. -/
theorem inhibitChanges_of_pending {s : State} (pending : s.svc.inhibitLatch.pending = true) :
    inhibitChanges s = { s with cso.inhibit := s.cso.rawInhibit, cso.debounceTime := 0 } :=
  handCondition_of_pending pending

theorem inhibitChanges_of_rest {s : State} (rest : s.svc.inhibitLatch.pending = false) :
    inhibitChanges s = ({ s with
      cso.inhibit := s.cso.rawInhibit, cso.debounceTime := 0, svc.inhibitLatch := ⟨s.cso.rawInhibit, true⟩ }).raise
        (.conditionChange .inhibit s.cso.rawInhibit s.svc.supplyLatch.value) :=
  handCondition_inhibit (s := { s with cso.inhibit := s.cso.rawInhibit, cso.debounceTime := 0 }) rest

/-- Settles O51: a change of a raw level, and the two outcomes of a debounce time's end by the latch. -/
theorem linesAreDebounced : Obligations.LinesAreDebounced := by
  constructor
  · intro t high s u tilting
    have answered : exec (.supplyOkDebounceExpiry t) s = .next (expireSupplyDebounce u) := rfl
    refine ⟨rfl, fun settled => answered.trans (congrArg _ (if_pos settled)), fun differs => ?_⟩
    rw [answered, completes_next, expireSupplyDebounce, if_neg differs]
    intro settled told
    have isTold : supplyTold u = told := if_congr (and_congr_right fun _ => isTilting_iff _) rfl rfl
    have act := supplyAct_eq (isTilting u.dmd.mode) u.act
    simp only [isTilting_iff] at act
    obtain ⟨es, events⟩ := supplyTold_events u
    have toldEvents : told.svc.events = es := by rw [← isTold, events]
    cases latch : u.svc.supplyLatch.pending with
    | false =>
      rw [supplyChanges_of_rest latch, isTold]
      refine ⟨act, fun _ => ⟨rfl, raised_conditionChange _ _ _ _⟩, fun pending => (nomatch pending), rfl, ?_⟩
      rw [← isTold, events]
      rfl
    | true =>
      rw [supplyChanges_of_pending latch, isTold]
      refine ⟨act, fun rest => (nomatch rest), fun _ => ?_, rfl, ?_⟩
      · rw [← isTold, events]
      · rw [← isTold, events]
  · intro t active s u
    have answered : exec (.inhibitDebounceExpiry t) s = .next (expireInhibitDebounce u) := rfl
    refine ⟨rfl, fun settled => answered.trans (congrArg _ (if_pos settled)), fun differs => ?_⟩
    rw [answered, completes_next, expireInhibitDebounce, if_neg differs]
    cases latch : u.svc.inhibitLatch.pending with
    | false =>
      rw [inhibitChanges_of_rest latch]
      exact ⟨fun _ => ⟨rfl, raised_conditionChange _ _ _ _⟩, fun pending => (nomatch pending), rfl, rfl⟩
    | true =>
      rw [inhibitChanges_of_pending latch]
      exact ⟨fun rest => (nomatch rest), fun _ => rfl, rfl, rfl⟩

/-! ## CAR-STATE (R159, R160) -/

theorem carStateFlags_eq (s : State) : carStateFlags s =
    (if s.sns.bogieHealth.fault then BitVec.ofNat 8 (2 ^ 0) else 0) |||
    (if s.sns.bodyHealth.fault then BitVec.ofNat 8 (2 ^ 1) else 0) |||
    (if s.act.failedLatch then BitVec.ofNat 8 (2 ^ 2) else 0) |||
    (if s.xck.splitLatch then BitVec.ofNat 8 (2 ^ 3) else 0) := by
  unfold carStateFlags flagByte
  generalize s.sns.bogieHealth.fault = bogie
  generalize s.sns.bodyHealth.fault = body
  generalize s.act.failedLatch = failed
  generalize s.xck.splitLatch = split
  revert bogie body failed split
  decide

/-- Settles O53: the frame field by field, and the expiry by the timer. -/
theorem carStateReportsTheUnits : Obligations.CarStateReportsTheUnits := by
  intro t s u bit frame
  have isFrame : buildCarState u = frame := by
    unfold buildCarState
    rw [carStateFlags_eq]
  have answered : exec (.carStateTimerExpiry t) s = .next (expireCarStateTimer u) := rfl
  refine ⟨isFrame, ?_⟩
  rw [answered, expireCarStateTimer, sendCarState, isFrame]
  cases u.cso.carStateTimer <;> rfl

/-! ## Tilt orders (R164, R165) -/

theorem addressed_iff (s : State) (target : Nat) :
    addressed s target = true ↔ target = 0 ∨ s.cso.unitInUse = some target := by
  simp [addressed]

theorem actionOf_eq_none {code : Byte} (unknown : ¬(code = 1 ∨ code = 2)) : actionOf code = none := by
  rw [not_or] at unknown
  exact (if_neg unknown.1).trans (if_neg unknown.2)

theorem actionCode_of_actionOf {code : Byte} {action : OrderAction} (names : actionOf code = some action) :
    actionCode action = code ∧ (code = 1 ∨ code = 2) := by
  unfold actionOf at names
  split at names
  · next is => cases names; exact ⟨is.symm, .inl is⟩
  · split at names
    · next is => cases names; exact ⟨is.symm, .inr is⟩
    · cases names

theorem takeOrder_of_addressed {o : TiltOrder} {s : State} {action : OrderAction} (names : actionOf o.action = some action)
    (here : addressed s o.target.toNat = true) :
    takeOrder o s = ({ s with cso.orderInhibit := decide (action = OrderAction.inhibit) }).raise
      (.orderReceived o.origin o.target.toNat action) := by
  unfold takeOrder
  rw [names]
  exact if_pos here

theorem takeOrder_of_other {o : TiltOrder} {s : State}
    (other : actionOf o.action = none ∨ addressed s o.target.toNat = false) : takeOrder o s = s := by
  unfold takeOrder
  obtain unknown | elsewhere := other
  · rw [unknown]
  · cases actionOf o.action with
    | none => rfl
    | some action => exact if_neg (Bool.eq_false_iff.1 elsewhere)

/-- Settles O54: the values of the request, START, and the order where it is addressed. -/
theorem orderIsSentAndAppliedWhereAddressed : Obligations.OrderIsSentAndAppliedWhereAddressed := by
  intro t target code o s u order addresses
  have here : addressed u o.target.toNat = true ↔ addresses :=
    (addressed_iff u o.target.toNat).trans
      (or_congr_left ⟨fun zero => BitVec.eq_of_toNat_eq zero, fun zero => by rw [zero]; rfl⟩)
  refine ⟨?_, fun other => takeOrder_of_other (other.imp actionOf_eq_none fun elsewhere => ?_), fun inhibits is => ?_,
    fun releases is => ?_⟩
  · have answered : exec (.sendOrder t [target, code]) s = .next (requestOrder [target, code] u) := rfl
    rw [answered, requestOrder]
    cases names : actionOf code with
    | none =>
      have malformed : 15 < target.toNat ∨ ¬(code = 1 ∨ code = 2) := by
        refine .inr fun known => ?_
        obtain rfl | rfl := known <;> cases names
      rw [if_pos malformed]
      rfl
    | some action =>
      obtain ⟨isCode, known⟩ := actionCode_of_actionOf names
      have isOrder : builtOrder target action u = order := by rw [builtOrder, isCode]
      by_cases far : 15 < target.toNat
      · rw [if_pos (Or.inl far)]
        exact congrArg _ (if_pos far)
      · rw [if_neg (not_or_intro far (not_not_intro known))]
        dsimp only
        rw [if_neg far, sendTiltOrder, isOrder]
        rfl
  · exact Bool.eq_false_iff.2 fun isHere => elsewhere (here.1 isHere)
  · exact takeOrder_of_addressed (by rw [inhibits]; rfl) (here.2 is)
  · exact takeOrder_of_addressed (by rw [releases]; rfl) (here.2 is)

end Sys2Proof.Machine
end

section
/-! SUPPORT. The end of a configuration load, with a record that is good or with a fault, and RESTART (R156, R167 to R169,
R175). -/

namespace Sys2Proof.Machine

/-! ## The record at its end (R2, R168, R169) -/

theorem roundHalfUp_eq (num den : Nat) : roundHalfUp num den = num / den + if den ≤ 2 * (num % den) then 1 else 0 := by
  unfold roundHalfUp
  split <;> rfl

theorem judgeRecord_eq (r : RecordBytes) : judgeRecord r =
    if r.check ≠ checkOf (recordCovered r) then some .badCheck
    else if r.identity = 0 then some .identityZero
    else if clampedCarLength (recordAsRead r) < r.sensorPos.toNat ∨
      clampedCarLength (recordAsRead r) < r.refPos.toNat then some .position
    else none := by
  unfold judgeRecord
  simp only [Bool.or_eq_true, decide_eq_true_eq]

theorem recordPulseLength_default (serial : BitVec 64) : recordPulseLength (defaultRecord serial) = 29596 := by
  have wheel : (defaultRecord serial).wheelDiameter = 920 := rfl
  have pulses : (defaultRecord serial).pulsesPerRev = 100 := rfl
  rw [recordPulseLength, wheel, pulses, roundHalfUp_eq]
  norm_num

/-- A good record: the units take their fields, and a latch of cause CONFIG is released. -/
theorem handRecord_of_good {o : LoadOutcome} {s : State} (good : o.fault = none) : handRecord o s = { s with
    svc.config       := o.config
    svc.unconfigured := false
    svc.clamped      := o.clamped
    svc.loadFault    := none
    odo              := takePulseLength (recordPulseLength o.config) s.odo
    xck.threshold    := o.config.threshold
    cso.unitInUse    := o.config.unitNumber
    act := { s.act with
      loopGain     := o.config.loopGain
      failedLatch  :=
        if s.act.failureCause ≠ some .config then s.act.failedLatch else s.act.failedLatch && s.sns.bodyHealth.fault
      failureCause :=
        if s.act.failureCause ≠ some .config then s.act.failureCause
        else if s.sns.bodyHealth.fault then some .sensor else none } } := by
  unfold handRecord takeLoadOutcome
  rw [good]
  by_cases config : s.act.failureCause = some .config
  · cases body : s.sns.bodyHealth.fault <;> simp [config, clearFailed]
  · simp [config]

/-- A failed load: the default record, and the FAILED latch with CONFIG. -/
theorem handRecord_of_fault {serial : BitVec 64} (f : LoadFault) (s : State) :
    handRecord (failedLoad serial f) s = { s with
      svc.config       := defaultRecord serial
      svc.unconfigured := true
      svc.clamped      := false
      svc.loadFault    := some f
      svc.events       := (s.raise (.configFault f)).svc.events
      odo              := takePulseLength 29596 s.odo
      xck.threshold    := 400
      cso.unitInUse    := none
      act := { s.act with
        enable := false, duty := 0, blanking := 0, trackingCount := 0, failedLatch := true
        failureCause := some .config, loopGain := 400 } } := by
  have length : recordPulseLength (failedLoad serial f).config = 29596 := recordPulseLength_default serial
  unfold handRecord
  rw [length]
  rfl

/-! ## The end of START (R167) -/

/-- RCL's trigger and CSO's first CAR-STATE, in either order. -/
def afterStart (carStateFirst : Bool) (s : State) : State :=
  if carStateFirst then takeTrigger (sendCarState s) else sendCarState (takeTrigger s)

theorem endLoad_eq (o : LoadOutcome) (carStateFirst : Bool) (s : State) :
    endLoad o carStateFirst s = afterStart carStateFirst { handRecord o s with svc.startState := .done } := rfl

/-- What the end of START leaves. -/
theorem afterStart_frame (carStateFirst : Bool) (s : State) :
    (afterStart carStateFirst s).odo = s.odo ∧ (afterStart carStateFirst s).act = s.act ∧
    (afterStart carStateFirst s).xck = s.xck ∧ (afterStart carStateFirst s).svc.startState = s.svc.startState ∧
    (afterStart carStateFirst s).svc.config = s.svc.config ∧
    (afterStart carStateFirst s).svc.unconfigured = s.svc.unconfigured ∧
    (afterStart carStateFirst s).svc.clamped = s.svc.clamped ∧
    (afterStart carStateFirst s).svc.loadFault = s.svc.loadFault ∧
    (afterStart carStateFirst s).cso.unitInUse = s.cso.unitInUse ∧
    (afterStart carStateFirst s).cso.carStateTimer = some 0 := by
  unfold afterStart
  split <;> simp [sendCarState]

theorem takeTrigger_raises (s : State) : RaisesOnly (· = .queueLoss) s.svc.events (takeTrigger s).svc.events := by
  unfold takeTrigger
  split
  · exact .refl _
  · split
    · exact .refl _
    · exact startRollCall_raises { s with rcl.triggerHold := some 0 }

theorem sendCarState_raises (s : State) : RaisesOnly (· = .queueLoss) s.svc.events (sendCarState s).svc.events :=
  (offerTo_raises .a _ s).trans (offerTo_raises .b _ _)

theorem afterStart_raises (carStateFirst : Bool) (s : State) :
    RaisesOnly (· = .queueLoss) s.svc.events (afterStart carStateFirst s).svc.events := by
  unfold afterStart
  split
  · exact (sendCarState_raises s).trans (takeTrigger_raises _)
  · exact (takeTrigger_raises s).trans (sendCarState_raises _)

/-- RCL's trigger starts a roll call where no hold runs. -/
theorem takeTrigger_forming {s : State} (done : s.svc.startState = .done) (stopped : s.rcl.triggerHold = none) :
    (takeTrigger s).rcl.trainState = .forming := by
  unfold takeTrigger
  rw [if_neg (by simp [done]), if_neg (by simp [stopped])]
  obtain ⟨a, b, es, starts⟩ := startRollCall_relinked { s with rcl.triggerHold := some 0 }
  rw [starts]
  rfl

theorem afterStart_forming {s : State} (carStateFirst : Bool) (done : s.svc.startState = .done)
    (stopped : s.rcl.triggerHold = none) : (afterStart carStateFirst s).rcl.trainState = .forming := by
  unfold afterStart
  split
  · exact takeTrigger_forming (by simpa using done) (by simpa using stopped)
  · simpa using takeTrigger_forming done stopped

/-- Settles O55: a load that is over ignores its commands; a good record gives one state, on which START ends. -/
theorem goodRecordEndsStart : Obligations.GoodRecordEndsStart := by
  intro t r carStateFirst s u clamp length stays read config dividend divisor pulseLength odo act loaded report
  have completed : exec (.configReadComplete t r carStateFirst) s = .next (completeRead r carStateFirst u) := rfl
  have retried : exec (.configLoadRetry t) s = .next (retryRead u) := rfl
  have abandoned : exec (.configLoadTimeout t carStateFirst) s = .next (abandonLoad carStateFirst u) := rfl
  rw [completed, retried, abandoned]
  refine ⟨fun done => ?_, fun loading => ⟨?_, fun check named sensor ref => ?_⟩⟩
  · rw [completeRead, retryRead, abandonLoad, done]
    exact ⟨rfl, rfl, rfl⟩
  · rw [retryRead, loading]
  · have good : judgeRecord r = none := by
      rw [judgeRecord_eq, if_neg (not_not_intro check), if_neg named]
      exact if_neg (not_or_intro (Nat.not_lt.2 sensor) (Nat.not_lt.2 ref))
    have length_eq : recordPulseLength config = pulseLength := roundHalfUp_eq _ _
    have outcome : readOutcome u.svc.factorySerial r = ⟨config, none, decide (config ≠ read)⟩ := by
      rw [readOutcome, good]
      rfl
    have odo_eq : takePulseLength (recordPulseLength config) u.odo = odo := by rw [length_eq]; rfl
    have isLoaded : ({ handRecord ⟨config, none, decide (config ≠ read)⟩ u with svc.startState := .done } : State) =
        loaded := by
      rw [handRecord_of_good rfl, odo_eq]
    have value : completeRead r carStateFirst u = afterStart carStateFirst loaded := by
      rw [completeRead, loading, ← isLoaded, ← outcome]
      exact endLoad_eq _ _ _
    obtain ⟨sameOdo, sameAct, sameXck, sameStart, sameConfig, sameUnconfigured, sameClamped, sameFault, sameUnit, timer⟩ :=
      afterStart_frame carStateFirst loaded
    rw [completes_next, value, sameOdo, sameAct, sameXck, sameStart, sameConfig, sameUnconfigured, sameClamped, sameFault,
      sameUnit]
    refine ⟨rfl, rfl, rfl, rfl, rfl, rfl, rfl, rfl, rfl, rfl, rfl, ?_, rfl, rfl, timer, fun stopped =>
      afterStart_forming carStateFirst rfl stopped⟩
    change odo.pulseLength = pulseLength
    by_cases same : pulseLength = u.odo.pulseLength
    · exact (congrArg Odo.pulseLength (if_pos same)).trans same.symm
    · exact congrArg Odo.pulseLength (if_neg same)

/-- Settles O56: both commands end the load with the default record and the fault. -/
theorem failedLoadLeavesTheStationUnconfigured : Obligations.FailedLoadLeavesTheStationUnconfigured := by
  intro t r carStateFirst s u length fault config odo act loaded report unconfigured loading
  have completed : exec (.configReadComplete t r carStateFirst) s = .next (completeRead r carStateFirst u) := rfl
  have abandoned : exec (.configLoadTimeout t carStateFirst) s = .next (abandonLoad carStateFirst u) := rfl
  have ends (f : LoadFault) : unconfigured f (endLoad (failedLoad u.svc.factorySerial f) carStateFirst u) := by
    have odo_eq : takePulseLength 29596 u.odo = odo := if_congr eq_comm rfl rfl
    have isLoaded : ({ handRecord (failedLoad u.svc.factorySerial f) u with svc.startState := .done } : State) = loaded f := by
      rw [handRecord_of_fault, odo_eq]
      rfl
    rw [endLoad_eq, isLoaded]
    obtain ⟨sameOdo, sameAct, -, sameStart, sameConfig, sameUnconfigured, sameClamped, sameFault, sameUnit, timer⟩ :=
      afterStart_frame carStateFirst (loaded f)
    have kept := (afterStart_raises carStateFirst (loaded f)).record_eq (k := .configFault) (by simp)
    refine ⟨rfl, sameOdo, sameAct, sameStart, sameUnconfigured, sameClamped, sameFault, sameConfig,
      congrArg ConfigRecord.identity sameConfig, congrArg ConfigRecord.unitNumber sameConfig, sameUnit, timer, ?_⟩
    exact (congrArg EventRecord.detail kept).trans (raisedRecord_detail (by simp [kindOf]) _)
  rw [completed, abandoned, completes_next, abandonLoad, loading]
  refine ⟨ends .noAnswer, fun f faulty => ?_⟩
  have judged : judgeRecord r = some f := (judgeRecord_eq r).trans faulty
  rw [completes_next, completeRead, loading, readOutcome, judged]
  exact ends f

/-! ## RESTART (R175) -/

theorem restartControl_of_zero {s : State} (zero : s.dmd.command = 0) : restartControl s = disableDrive { s with
    dmd               := dmdPowerOn
    cso.carStateTimer := none
    cso.neighbourA    := noNeighbour
    cso.neighbourB    := noNeighbour
    cso.orderInhibit  := false } := by
  unfold restartControl
  rw [zero]
  rfl

/-- Settles O59: the conditions in their order, and then every unit's RESTART values. -/
theorem restartKeepsWhatItsUnitsKeep : Obligations.RestartKeepsWhatItsUnitsKeep := by
  intro t s u refused
  have answered : exec (.restart t []) s = .next (restart u) := rfl
  rw [answered]
  refine ⟨fun loading => ?_, fun done moving => ?_, fun done standing tilted => ?_, fun done standing upright => ?_⟩
  all_goals unfold restart restartRefusal
  · rw [if_pos loading]
    rfl
  · rw [if_neg (by simp [done]), if_pos moving]
    rfl
  · rw [if_neg (by simp [done]), if_neg (not_not_intro standing), if_pos tilted]
    rfl
  · rw [if_neg (by simp [done]), if_neg (not_not_intro standing), if_neg (not_not_intro upright)]
    unfold restartUnits
    rw [restartControl_of_zero (s := restartPreview (restartRollCall (restartSensing u))) upright]
    rfl

end Sys2Proof.Machine
end

section
/-! SUPPORT. The formats: the check, and the bytes of frames, records and answers (R177 to R180). -/

namespace Sys2Proof.Machine

/-! ## The check and the fields (R177, R178) -/

/-- The register takes a byte bit by bit. -/
theorem checkByte_eq (reg : BitVec 16) (b : Byte) : checkByte reg b = (List.range 8).foldl
    (fun (r : BitVec 16) k => if b.getLsbD k = r.getLsbD 0 then r >>> 1 else (r >>> 1) ^^^ 0x8408) reg := by
  have step : (fun (r : BitVec 16) k => checkBit r (b.getLsbD k)) =
      fun (r : BitVec 16) k => if b.getLsbD k = r.getLsbD 0 then r >>> 1 else (r >>> 1) ^^^ 0x8408 := by
    funext r k
    simp only [checkBit, beq_iff_eq]
    rfl
  rw [checkByte, step]
  rfl

/-- The word of a sample's validity and backdate: the flag is its highest bit. -/
theorem validity_word (k : BitVec 15) (valid : Bool) :
    (k.setWidth 16 ||| (if valid then 0x8000#16 else 0#16)).toNat = k.toNat + if valid then 32768 else 0 := by
  have low := k.isLt
  have small : (k.setWidth 16).toNat = k.toNat := by
    rw [BitVec.toNat_setWidth]
    omega
  cases valid with
  | false => simp [small]
  | true =>
    rw [if_pos rfl, if_pos rfl, BitVec.toNat_or, small, Nat.or_comm]
    exact (Nat.two_pow_add_eq_or_of_lt (i := 15) low 1).symm.trans (Nat.add_comm _ _)

/-- The covered bytes of a frame as fields. -/
theorem frameCovered_eq (f : LinkFrame) : frameCovered f =
    [kindByte f.body, f.hop] ++ field 2 f.age.toNat ++
      match f.body with
      | .rollStart epoch origin => [epoch] ++ field 4 origin.toNat
      | .rollEntry e => [e.epoch] ++ field 4 e.identity.toNat ++ [e.flags] ++ field 2 e.carLength.toNat ++
        field 2 e.sensorPos.toNat ++ field 2 e.refPos.toNat ++ [e.unitNumber]
      | .trackSample k => field 4 k.source.toNat ++ field 2 k.sequence.toNat ++ field 2 k.accel.toNat ++
        field 2 (k.backdate.toNat + if k.valid then 32768 else 0)
      | .carState c => field 4 c.identity.toNat ++ [c.mode, c.direction, c.flags] ++ field 2 c.theta.toNat ++
        field 2 c.command.toNat ++ field 4 c.speed.toNat ++ field 4 c.pSource.toNat
      | .tiltOrder o => field 4 o.origin.toNat ++ [o.target, o.action] := by
  unfold frameCovered
  rw [bytes16_field]
  congr 1
  cases f.body <;> simp only [bodyBytes, bytes16_field, bytes32_field, validity_word, List.singleton_append]

theorem frameBytes_eq (f : LinkFrame) :
    frameBytes f = [0x7E, 0xC1] ++ frameCovered f ++ field 2 (checkOf (frameCovered f)).toNat := by
  rw [frameBytes, bytes16_field]
  rfl

theorem recordCovered_eq (r : RecordBytes) : recordCovered r =
    field 4 r.identity.toNat ++ field 2 r.wheelDiameter.toNat ++ [r.pulsesPerRev] ++ field 2 r.carLength.toNat ++
    field 2 r.sensorPos.toNat ++ field 2 r.refPos.toNat ++ [r.unitNumber] ++ field 2 r.lookaheadTime.toNat ++
    [r.reserved, r.compensation, r.localComp] ++ field 2 r.switchOff.toNat ++ field 2 r.switchOn.toNat ++
    field 2 r.angleLimit.toNat ++ field 2 r.gangwayLimit.toNat ++ field 2 r.tiltRate.toNat ++
    field 2 r.loopGain.toNat ++ [r.thresholdTens] := by
  simp only [recordCovered, bytes16_field, bytes32_field]

/-- Settles O60: each format by its fields, and each code by its table. -/
theorem formatsHaveTheirLengthsAndCheck : Obligations.FormatsHaveTheirLengthsAndCheck := by
  refine ⟨by decide +kernel, by decide, fun bytes => ?_, bytes16_field, fun f => ?_, fun f => ⟨frameBytes_eq f, ?_⟩, fun r =>
    ⟨?_, recordCovered_eq r⟩, fun code payload => ?_, rfl, rfl, rfl, rfl, rfl, fun a => rfl, rfl, rfl, rfl, rfl, rfl, rfl, rfl,
    rfl, rfl, rfl, rfl, rfl, rfl, rfl⟩
  · rw [checkOf, show checkByte = _ from funext fun reg => funext (checkByte_eq reg)]
    rfl
  · rw [frameBytes_eq, frameCovered_eq]
    cases f.body <;> simp
  · rw [frameCovered_eq]
    cases f.body <;> rfl
  · rw [recordCovered_eq]
    simp
  · intro covered
    rw [answerBytes, messageCovered, ← byteOf_field, bytes16_field]
    rfl

end Sys2Proof.Machine
end

section
/-! SUPPORT. The requests of the service line that are malformed, and the data of its readings (R170, R171, R178). -/

namespace Sys2Proof.Machine

/-! ## The data of the readings (R66, R71, R110, R171, R178) -/

/-- The ms since a time of acceptance as a field. -/
def elapsedField (now : Nat) (time : Option Nat) : List Byte :=
  field 2 ((time.map fun x => min 65534 ((now - x) / 1000)).getD 65535)

theorem elapsedBytes_eq (now : Nat) (time : Option Nat) : elapsedBytes now time = elapsedField now time := by
  cases time <;> exact nat16_field _

/-- The identity bound in a slot as a field. -/
def boundField (b : Option Source) : List Byte := field 4 ((b.map fun x => x.identity.toNat).getD 0)

theorem boundBytes_eq (b : Option Source) : boundBytes b = boundField b := by
  cases b <;> exact bytes32_field _

/-- The content of an entry's last CAR-STATE. -/
def carContent : Option CarReport → List Byte
  | some c => [c.mode] ++ signedField 2 c.theta ++ [c.flags]
  | none   => [0, 0, 0, 0]

theorem carContent_length (c : Option CarReport) : (carContent c).length = 4 := by
  cases c <;> simp [carContent]

theorem carReportBytes_eq (now : Nat) (c : Option CarReport) :
    carReportBytes now c = elapsedField now (c.map CarReport.time) ++ carContent c := by
  unfold carReportBytes
  rw [elapsedBytes_eq]
  cases c with
  | none => rfl
  | some c => exact congrArg (fun angle => _ ++ ([c.mode] ++ angle ++ [c.flags])) (int16_field c.theta)

/-- An entry of the roster as fields. -/
def entryField (now : Nat) (x : RosterEntry) : List Byte :=
  field 4 x.identity.toNat ++ [sideCode x.side] ++ presence 1 (x.hop.map (field 1)) ++
    presence 1 (x.sentFrom.map fun e => [endCode e]) ++ presence 1 (x.ordinal.map (field 1)) ++
    presence 1 (x.aFacesEnd0.map fun b => [flagByte b]) ++
    field 2 x.carLength ++ field 2 x.sensorPos ++ field 2 x.refPos ++ field 1 x.unitNumber ++ [flagByte x.unconfigured] ++
    presence 4 (x.position.map (signedField 4)) ++ presence 4 (x.trainDistance.map (signedField 4)) ++
    elapsedField now (x.lastCarState.map CarReport.time) ++ carContent x.lastCarState ++
    elapsedField now x.lastValid ++ field 1 x.invalidCount

theorem entryBytes_eq (now : Nat) (x : RosterEntry) : entryBytes now x = entryField now x := by
  simp only [entryBytes, entryField, elapsedBytes_eq, carReportBytes_eq, optional_presence, bytes32_field, nat16_field,
    byteOf_field, List.append_assoc, List.cons_append, List.nil_append, funext byteOf_field,
    funext int32_field]

theorem presence_map_length {α : Type} {width : Nat} {f : α → List Byte} (long : ∀ a, (f a).length = width)
    (o : Option α) : (presence width (o.map f)).length = width + 1 := by
  cases o with
  | none => simp [presence]
  | some a => simp [presence, long]

theorem entryField_length (now : Nat) (x : RosterEntry) : (entryField now x).length = 40 := by
  simp [entryField, elapsedField, carContent_length, presence_map_length]

theorem rosterData_eq (index : Nat) (s : State) : rosterData index s =
    [s.rcl.currentEpoch, trainStateCode s.rcl.trainState] ++ field 1 s.rcl.roster.length ++
      presence 40 (s.rcl.roster[index]?.map (entryField s.now)) := by
  simp only [rosterData, entryWidth, optional_presence, byteOf_field, List.cons_append, List.nil_append,
    funext (entryBytes_eq s.now)]

/-- One slot as fields. -/
def slotField (b : Option Source) (q : List PreviewEntry) : List Byte :=
  boundField b ++ presence 4 (b.map fun x => signedField 4 x.offset) ++ field 2 q.length ++
    presence 4 (q.head?.map fun x => field 4 x.due.toNat) ++ presence 4 (q.getLast?.map fun x => field 4 x.due.toNat)

theorem slotData_eq (b : Option Source) (q : List PreviewEntry) : slotData b q = slotField b q := by
  simp only [slotData, slotField, boundBytes_eq, optional_presence, int32_field, nat16_field, bytes32_field]

theorem slotField_length (b : Option Source) (q : List PreviewEntry) : (slotField b q).length = 21 := by
  simp [slotField, boundField, presence_map_length]

/-- The value of a COVERED lookup. -/
def lookupAngle : Option Lookup → Option (List Byte)
  | some (.covered a) => some (signedField 2 a)
  | _                 => none

/-- The value of a COVERED lookup as a field. -/
def lookupField (l : Option Lookup) : List Byte := presence 2 (lookupAngle l)

theorem lookupValue_eq (l : Option Lookup) : lookupValue l = lookupField l := by
  cases l with
  | none => rfl
  | some l => cases l with
    | covered a => exact congrArg (1 :: ·) (int16_field a)
    | _ => rfl

theorem lookupField_length (l : Option Lookup) : (lookupField l).length = 3 := by
  cases l with
  | none => rfl
  | some l => cases l with
    | covered a => simp [lookupField, lookupAngle, presence]
    | _ => rfl

theorem slotsData_eq (s : State) : slotsData s =
    slotField s.src.slotP s.pvq.queueP ++ slotField s.src.slotS s.pvq.queueS ++ boundField s.src.ranking[0]? ++
      boundField s.src.ranking[1]? ++ [lookupCode s.pvq.lastLookup] ++ lookupField s.pvq.lastLookup ++
      field 1 s.xck.splitCounter := by
  simp only [slotsData, slotData_eq, boundBytes_eq, lookupValue_eq, byteOf_field, List.head?_eq_getElem?,
    List.getElem?_tail, Nat.zero_add]

theorem statusData_eq (s : State) : statusData s =
    field 4 s.svc.config.identity.toNat ++ field 8 s.svc.factorySerial.toNat ++
      [flagByte s.svc.unconfigured, flagByte s.svc.clamped] ++ presence 1 (s.svc.loadFault.map fun f => [loadFaultCode f]) ++
      [modeCode s.dmd.mode] ++ presence 1 (s.dmd.lastCause.map fun c => [modeCauseCode c]) ++
      [flagByte s.act.failedLatch, failureCauseCode s.act.failureCause, flagByte s.act.enable] ++ signedField 2 s.act.duty ++
      field 4 s.odo.speed ++ field 4 s.odo.odometer.toNat ++ [directionCode s.odo.direction] ++
      signedField 2 s.dmd.command ++ signedField 2 s.sns.lastBody ++ signedField 2 s.sns.lastBogie ++
      [flagByte s.sns.bogieHealth.fault, flagByte s.sns.bodyHealth.fault, trainStateCode s.rcl.trainState,
        flagByte s.src.headFlag] ++ boundField s.src.slotP ++ [flagByte s.xck.splitLatch, lineStateCode s.portA.line,
        flagByte s.portA.farEnd, lineStateCode s.portB.line, flagByte s.portB.farEnd, flagByte s.cso.inhibit,
        flagByte s.act.supplyOk, flagByte s.dmd.localInhibit, flagByte s.cso.orderInhibit,
        startStateCode s.svc.startState] := by
  unfold statusData portStatus
  simp only [bytes32_field, bytes64_field, optional_presence, int16_field, nat32_field, boundBytes_eq, List.append_assoc,
    List.cons_append, List.nil_append]

theorem countersData_eq (s : State) : countersData s = (counterList s).flatMap (field 2) := by
  rw [countersData, show nat16 = field 2 from funext nat16_field]

theorem length_flatMap_field (width : Nat) (l : List Nat) : (l.flatMap (field width)).length = width * l.length := by
  induction l with
  | nil => rfl
  | cons n l ih => simp [ih, Nat.mul_succ, Nat.add_comm]

theorem counterList_length (s : State) : (counterList s).length = 35 := by
  simp only [counterList, badFrameList, portCounterList, slotCountList, List.length_append, List.length_cons,
    List.length_nil]

theorem data_lengths (index : Nat) (s : State) :
    (statusData s).length = 57 ∧ (slotsData s).length = 55 ∧ (countersData s).length = 70 ∧
      (rosterData index s).length = 44 := by
  rw [statusData_eq, slotsData_eq, countersData_eq, rosterData_eq, length_flatMap_field]
  refine ⟨?_, ?_, by rw [counterList_length], ?_⟩
  · simp [boundField, presence_map_length]
  · simp [slotField_length, lookupField_length, boundField]
  · simp [presence_map_length, entryField_length]

/-! ## The requests (R170, R171) -/

theorem isUnknownRequest_of {code : Byte} {payload : List Byte} {check : Check}
    (unknown : check ≠ checkOf (messageCovered code payload) ∨ code.toNat < 1 ∨ 9 < code.toNat) :
    isUnknownRequest code payload check = true := by
  rw [isUnknownRequest, Bool.or_eq_true, Bool.or_eq_true, bne_iff_ne, decide_eq_true_eq, decide_eq_true_eq, or_assoc]
  exact unknown

theorem roster_beyond_entries {index : Nat} {s : State} (beyond : s.rcl.roster.length ≤ index) : rosterData index s =
    [s.rcl.currentEpoch, trainStateCode s.rcl.trainState, BitVec.ofNat 8 s.rcl.roster.length, 0] ++
      List.replicate 40 0 := by
  rw [rosterData_eq, List.getElem?_eq_none beyond, byteOf_field]
  rfl

theorem whenEmpty_of_nonempty {payload : List Byte} (nonempty : payload ≠ []) (code : Byte) (f : State → State) (s : State) :
    whenEmpty code payload f s = answerMalformed code s := by
  unfold whenEmpty
  rw [if_neg (by simpa using nonempty)]

theorem requestRoster_malformed {payload : List Byte} (other : ∀ b : Byte, b.toNat ≤ 15 → payload ≠ [b]) (s : State) :
    requestRoster payload s = answerMalformed 2 s := by
  unfold requestRoster
  split
  · next index => exact if_neg fun low => other index low rfl
  · rfl

theorem requestLocalInhibit_malformed {payload : List Byte} (other : ∀ b : Byte, b.toNat ≤ 1 → payload ≠ [b]) (s : State) :
    requestLocalInhibit payload s = answerMalformed 6 s := by
  unfold requestLocalInhibit
  split
  · next value => exact if_neg fun low => other value low rfl
  · rfl

theorem requestOrder_malformed {payload : List Byte} (other : payload.length ≠ 2) (s : State) :
    requestOrder payload s = answerMalformed 7 s := by
  unfold requestOrder
  split
  · exact absurd rfl other
  · rfl

/-- Settles O57: the payloads that are not allowed, and the readings field by field. -/
theorem requestsAreAnswered : Obligations.RequestsAreAnswered := by
  constructor
  · intro t code payload check s u malformed short
    have fits : payloadWf payload = true := decide_eq_true short
    refine ⟨fun unknown => ?_, fun nonempty => ⟨?_, ?_, ?_, ?_, ?_, ?_⟩, fun other => ?_, fun other => ?_, fun other => ?_⟩
    · exact if_pos (Bool.and_eq_true_iff.mpr ⟨fits, isUnknownRequest_of unknown⟩)
    all_goals refine (if_pos fits).trans (congrArg Host.Outcome.next ?_)
    · exact whenEmpty_of_nonempty nonempty 1 _ u
    · exact whenEmpty_of_nonempty nonempty 3 _ u
    · exact whenEmpty_of_nonempty nonempty 4 _ u
    · exact whenEmpty_of_nonempty nonempty 5 _ u
    · exact whenEmpty_of_nonempty nonempty 8 _ u
    · exact whenEmpty_of_nonempty nonempty 9 _ u
    · exact requestRoster_malformed other u
    · exact requestLocalInhibit_malformed other u
    · exact requestOrder_malformed other u
  · intro t index value s u done flag elapsed bound due slot portCounters entry
    have isFlag : flag = flagByte := rfl
    have isElapsed : elapsed = elapsedField u.now := funext fun time => by cases time <;> rfl
    have isBound : bound = boundField := funext fun b => by cases b <;> rfl
    have isEntry : entry = entryField u.now := funext fun x => by
      unfold entryField
      rw [← isElapsed, ← isFlag]
      congr 3
    have isSlot : slot = slotField := funext fun b => funext fun q => by
      rw [slotField, ← isBound]
    obtain ⟨status, slots, counters, roster⟩ := data_lengths index.toNat u
    refine ⟨?_, ?_, ?_, ?_, countersData_eq u, rfl, rfl, rfl, fun low => ?_, roster_beyond_entries, fun low => ?_, status,
      slots, counters, roster⟩
    · rw [isBound]
      exact statusData_eq u
    · rw [isEntry]
      exact rosterData_eq index.toNat u
    · rw [slotsData_eq, lookupField, isSlot, isBound]
      rcases u.pvq.lastLookup with _ | _ | _ <;> rfl
    · simp only [counterList, badFrameList, portCounterList, slotCountList, portCounters, List.cons_append,
        List.nil_append]
    · exact congrArg Host.Outcome.next (if_pos low)
    · exact congrArg Host.Outcome.next (if_pos low)

end Sys2Proof.Machine
end

section
/-! SUPPORT. The event set: a raising, the notify line, the bytes of a detail, and the fetch of an event with the judgement
of the condition latches after it (R172 to R174, R180). -/

namespace Sys2Proof.Machine

/-! ## A raising and the notify line (R172) -/

theorem raisedRecord_eq (d : Detail) (r : EventRecord) : raisedRecord d r =
    if r.pending then ⟨true, min 255 (r.count + 1), if kindOf d = .queueLoss then r.detail else some d⟩
    else ⟨true, 1, some d⟩ := by
  unfold raisedRecord
  split
  · next pending => rw [pending]; rfl
  · rfl

theorem notifyLine_iff (s : State) : notifyLine s = true ↔ ∃ k, (s.svc.events.record k).pending = true := by
  rw [notifyLine, List.any_eq_true]
  exact exists_congr fun k => and_iff_right (mem_kindsByPriority k)

theorem EventSet.setRecord_record (es : EventSet) (k k' : EventKind) (r : EventRecord) :
    (es.setRecord k r).record k' = if k' = k then r else es.record k' := by
  split
  · next same => rw [same, EventSet.record_setRecord]
  · next other => exact EventSet.record_setRecord_of_ne es r other

/-! ## The bytes of a detail (R180) -/

/-- The fields of a detail, each in its width. -/
def detailField : Detail → List Byte
  | .actuatorFault cause repeated => [failureCauseCode (some cause), flagByte repeated]
  | .sensorFault unit change => [unitCode unit, changeCode change]
  | .configFault load => [failureCauseCode (some .config), loadFaultCode load]
  | .modeChange before after cause => [modeCode before, modeCode after, modeCauseCode cause]
  | .split change cause counter p s =>
    [changeCode change, splitCauseCode cause] ++ field 1 counter ++ field 4 p.toNat ++ field 4 s.toNat
  | .sourceChange cause pBefore pAfter sAfter =>
    [sourceCauseCode cause] ++ field 4 pBefore.toNat ++ field 4 pAfter.toNat ++ field 4 sAfter.toNat
  | .rollDone state epoch count => [trainStateCode state, epoch] ++ field 1 count
  | .portChange port up cause => [endCode port, if up then 2 else 0, portCauseCode cause]
  | .conditionChange line inhibit supplyOk => [conditionLineCode line, flagByte inhibit, flagByte supplyOk]
  | .orderReceived origin target action => field 4 origin.toNat ++ field 1 target ++ [actionCode action]
  | .queueLoss place => lossBytes place

theorem detailFields_eq (d : Detail) : detailFields d = detailField d := by
  cases d with
  | portChange port up cause => cases up <;> rfl
  | _ => simp only [detailFields, detailField, bytes32_field, byteOf_field, List.append_assoc, List.cons_append,
      List.nil_append]

theorem eventData_eq (kind : EventKind) (count : Nat) (pending : Bool) (d : Detail) :
    eventData kind ⟨pending, count, some d⟩ =
      [kindCode kind] ++ field 1 count ++ detailField d ++ List.replicate (16 - (detailField d).length) 0 := by
  rw [eventData, detailBytes, detailFields_eq, byteOf_field, ← List.append_assoc]
  rfl

theorem eventData_of_no_detail (kind : EventKind) (count : Nat) (pending : Bool) :
    eventData kind ⟨pending, count, none⟩ = [kindCode kind] ++ field 1 count ++ List.replicate 16 0 := by
  rw [eventData, detailBytes, byteOf_field]
  rfl

/-! ## The condition latches after a fetch (R174) -/

/-- The event set after the judgement of INHIBIT's latch. -/
def inhibitJudged (s : State) : EventSet :=
  if s.cso.inhibit = s.svc.inhibitLatch.value then s.svc.events
  else (s.raise (.conditionChange .inhibit s.cso.inhibit s.svc.supplyLatch.value)).svc.events

/-- The event set after the judgement of SUPPLY-OK's latch, where INHIBIT's holds its live level. -/
def supplyJudged (s : State) : EventSet :=
  if s.act.supplyOk = s.svc.supplyLatch.value then s.svc.events
  else (s.raise (.conditionChange .supplyOk s.cso.inhibit s.act.supplyOk)).svc.events

theorem told_inhibitJudged (s : State) : (if s.cso.inhibit = s.svc.inhibitLatch.value then s
    else s.raise (.conditionChange .inhibit s.cso.inhibit s.svc.supplyLatch.value)) =
      { s with svc.events := inhibitJudged s } := by
  unfold inhibitJudged
  split <;> rfl

theorem told_supplyJudged {s v : State} {es : EventSet} (before : v = { s with svc.events := es }) :
    (if s.act.supplyOk = s.svc.supplyLatch.value then v
      else v.raise (.conditionChange .supplyOk s.cso.inhibit s.act.supplyOk)).svc.events =
    supplyJudged { s with svc.events := es } := by
  rw [before]
  unfold supplyJudged
  split <;> rfl

/-- The latch of a line after the judgement of a level, at rest before it. -/
def judgedLatch (level value : Bool) : ConditionLatch := ⟨level, decide (level ≠ value)⟩

theorem judgedLatch_of_rest {l : ConditionLatch} (rest : l.pending = false) : judgedLatch l.value l.value = l := by
  rw [judgedLatch, decide_eq_false (fun differs => differs rfl), ← rest]

theorem rejudgeCondition_of_same {s : State} {line : ConditionLine} (same : liveLevel s line = (conditionLatch s line).value) :
    rejudgeCondition line s = s := if_pos same

theorem rejudgeCondition_of_differs {s : State} {line : ConditionLine}
    (differs : liveLevel s line ≠ (conditionLatch s line).value) :
    rejudgeCondition line s = copyCondition line s := if_neg differs

theorem rejudgeCondition_inhibit {s : State} (rest : s.svc.inhibitLatch.pending = false) :
    rejudgeCondition .inhibit s =
      { s with svc := { s.svc with events := inhibitJudged s
                                   inhibitLatch := judgedLatch s.cso.inhibit s.svc.inhibitLatch.value } } := by
  unfold inhibitJudged
  split
  · next same =>
    rw [rejudgeCondition_of_same (line := .inhibit) same, same, judgedLatch_of_rest rest]
  · next differs =>
    rw [rejudgeCondition_of_differs (line := .inhibit) differs, judgedLatch, decide_eq_true differs]
    rfl

theorem rejudgeCondition_supplyOk {s : State} (rest : s.svc.supplyLatch.pending = false)
    (judged : s.svc.inhibitLatch.value = s.cso.inhibit) :
    rejudgeCondition .supplyOk s =
      { s with svc := { s.svc with events := supplyJudged s
                                   supplyLatch := judgedLatch s.act.supplyOk s.svc.supplyLatch.value } } := by
  unfold supplyJudged
  split
  · next same =>
    rw [rejudgeCondition_of_same (line := .supplyOk) same, same, judgedLatch_of_rest rest]
  · next differs =>
    rw [rejudgeCondition_of_differs (line := .supplyOk) differs, judgedLatch, decide_eq_true differs, ← judged]
    rfl

theorem rejudgeConditions_eq (s : State) : rejudgeConditions s =
    { s with svc := { s.svc with events := supplyJudged { s with svc.events := inhibitJudged s }
                                 inhibitLatch := judgedLatch s.cso.inhibit s.svc.inhibitLatch.value
                                 supplyLatch := judgedLatch s.act.supplyOk s.svc.supplyLatch.value } } := by
  rw [rejudgeConditions, rejudgeCondition_inhibit rfl, rejudgeCondition_supplyOk rfl rfl]
  rfl

theorem conditionChange_pending_inhibitJudged (s : State) : (inhibitJudged s).conditionChange.pending =
    (s.svc.events.conditionChange.pending || decide (s.cso.inhibit ≠ s.svc.inhibitLatch.value)) := by
  unfold inhibitJudged
  split
  · next same => simp [same]
  · next differs => rw [decide_eq_true differs, Bool.or_true, (raised_conditionChange ..).1]

theorem conditionChange_pending_supplyJudged (s : State) : (supplyJudged s).conditionChange.pending =
    (s.svc.events.conditionChange.pending || decide (s.act.supplyOk ≠ s.svc.supplyLatch.value)) := by
  unfold supplyJudged
  split
  · next same => simp [same]
  · next differs => rw [decide_eq_true differs, Bool.or_true, (raised_conditionChange ..).1]

/-- The two judgements raise CONDITION-CHANGE alone. -/
theorem inhibitJudged_record (s : State) {k : EventKind} (other : k ≠ .conditionChange) :
    (inhibitJudged s).record k = s.svc.events.record k := by
  unfold inhibitJudged
  split
  · rfl
  · exact EventSet.record_setRecord_of_ne _ _ other

theorem supplyJudged_record (s : State) {k : EventKind} (other : k ≠ .conditionChange) :
    (supplyJudged s).record k = s.svc.events.record k := by
  unfold supplyJudged
  split
  · rfl
  · exact EventSet.record_setRecord_of_ne _ _ other

/-! ## The fetch (R173) -/

theorem highestPending_of_none {s : State} (quiet : notifyLine s = false) : highestPending s.svc.events = none :=
  List.find?_eq_none.mpr (List.any_eq_false.mp quiet)

theorem highestPending_of_first {es : EventSet} {before after : List EventKind} {kind : EventKind}
    (order : kindsByPriority = before ++ kind :: after) (pending : (es.record kind).pending = true)
    (clear : ∀ k ∈ before, (es.record k).pending = false) : highestPending es = some kind := by
  refine List.find?_eq_some_iff_append.mpr ⟨pending, before, after, order, fun k mem => ?_⟩
  rw [clear k mem]
  rfl

theorem fetchEvent_of_none {s : State} (none : highestPending s.svc.events = none) :
    fetchEvent s = answerDone 5 noEventData s := by
  rw [fetchEvent, none]

theorem fetchEvent_of_some {s : State} {kind : EventKind} (highest : highestPending s.svc.events = some kind) :
    fetchEvent s = answerDone 5 (eventData kind (s.svc.events.record kind)) (clearFetched kind s) := by
  rw [fetchEvent, highest]

theorem clearFetched_of_other {kind : EventKind} (other : kind ≠ .conditionChange) (s : State) :
    clearFetched kind s = { s with svc.events := s.svc.events.setRecord kind recordClear } := if_neg other

theorem clearFetched_conditionChange (s : State) : clearFetched .conditionChange s =
    rejudgeConditions { s with svc.events := s.svc.events.setRecord .conditionChange recordClear } := by
  rw [clearFetched, if_pos rfl]

/-- Settles O58: a raising by its record, the bytes by their fields, and a fetch by the kind that it takes. -/
theorem eventsAreRaisedAndFetched : Obligations.EventsAreRaisedAndFetched := by
  refine ⟨fun d s => ⟨?_, fun k other => ?_, rfl, notifyLine_iff s⟩, fun es k k' r => ⟨rfl, rfl, es.setRecord_record k k' r⟩,
    fun kind count pending d => ⟨?_, eventData_of_no_detail kind count pending⟩, ?_⟩
  · exact (EventSet.record_setRecord ..).trans (raisedRecord_eq ..)
  · exact EventSet.record_setRecord_of_ne _ _ other
  · refine (eventData_eq kind count pending d).trans ?_
    cases d <;> rfl
  · intro t s u cleared first second again
    have answered : exec (.fetchEvent t []) s = .next (fetchEvent u) := rfl
    rw [answered]
    refine ⟨fun quiet => ?_, fun before kind after order pending clear => ?_⟩
    · rw [fetchEvent_of_none (highestPending_of_none quiet)]
      rfl
    rw [completes_next, fetchEvent_of_some (highestPending_of_first order pending clear)]
    refine ⟨rfl, fun other => ?_, ?_⟩
    · rw [clearFetched_of_other other]
      rfl
    · rintro rfl
      rw [clearFetched_conditionChange, rejudgeConditions_eq]
      refine ⟨rfl, rfl, ?_, ?_, fun k other => ?_, rfl⟩
      · exact (conditionChange_pending_supplyJudged _).trans
          (congrArg (· || _) (conditionChange_pending_inhibitJudged cleared))
      · have isFirst : first = { cleared with svc.events := inhibitJudged cleared } := told_inhibitJudged cleared
        exact (told_supplyJudged isFirst).symm
      · exact (supplyJudged_record _ other).trans
          ((inhibitJudged_record cleared other).trans (EventSet.record_setRecord_of_ne _ _ other))

end Sys2Proof.Machine
end
